-- ==== Sys2Proof/Word.lean ====
section
/-! DEFINITION. The word types of PE: bytes, addresses and register widths (R10, R11, R12). -/

namespace Sys2Proof

/-- One location of the Raw Packet Buffer (R70). -/
abbrev Byte := BitVec 8

/-- A MAC address as a register value: bits [47:40] are the first byte on the wire (R40). -/
abbrev Mac := BitVec 48

/-- An IPv4 address as a register value: bits [31:24] are the first byte on the wire (R41). -/
abbrev Ip4 := BitVec 32

/-- The read-data and write-data ports of the command port (R120). -/
abbrev Data := BitVec 48

end Sys2Proof
end

