-- ==== Sys2Proof/Config.lean ====
section
/-! DEFINITION. What is fixed for this hardware (R9), the type of its OPEN parameters, and the free values that the
spec leaves unspecified. -/

namespace Sys2Proof

namespace Config

/-- `BUF_CAP`, the capacity of the Raw Packet Buffer (R9, R70, C11). -/
def bufCap : Nat := 1522

/-- `ETH_HDR`, the length of the Ethernet header (R9, R101). -/
def ethHdr : Nat := 14

/-- `EPH_LO`, the lowest ephemeral port (R9). -/
def ephLo : Nat := 1024

/-- `EPH_HI`, the highest ephemeral port, inclusive (R9). -/
def ephHi : Nat := 49151

/-- How many ports the draw of R352 chooses from. -/
def ephCount : Nat := ephHi - ephLo + 1

/-- `MQTT_VERSION`, the protocol level byte of CONNECT (R9). -/
def mqttVersion : Byte := 4

/-- `MQTT_NAME`, the protocol name of CONNECT, "MQTT" (R9). -/
def mqttName : List Byte := [0x4D, 0x51, 0x54, 0x54]

/-- The OPEN parameters of R9 (D22, D26, U7, U8): the configuration record that is fixed for a configured PE. -/
structure Params where
  /-- `PEER_MAC`. -/
  peerMac : Mac
  /-- `PEER_IP`. -/
  peerIp : Ip4
  /-- `PEER_PORT`, the TCP destination port of the SYN. -/
  peerPort : BitVec 16
  /-- `CONNECT_FLAGS`. -/
  connectFlags : Byte
  /-- `KEEPALIVE`. -/
  keepAlive : BitVec 16
  /-- `CLIENT_ID`, a byte string. -/
  clientId : List Byte
  /-- `MSS_VALUE`. -/
  mssValue : BitVec 16
  /-- `IP_TOS` of frames PE originates. -/
  ipTos : Byte
  /-- `IP_ID` of frames PE originates: one fixed value (R350). -/
  ipId : BitVec 16
  /-- `IP_FLAGSFRAG` of frames PE originates. -/
  ipFlagsFrag : BitVec 16
  /-- `IP_TTL` of frames PE originates. -/
  ipTtl : Byte
  /-- `TCP_WINDOW`. -/
  tcpWindow : BitVec 16
  /-- `SUB_QOS`. -/
  subQos : Byte
  /-- `MSG_ID`. -/
  msgId : BitVec 16
  /-- `TIMEWAIT_DELAY`: timing only, no rule depends on its value (R9, R483, U7). -/
  timeWaitDelay : Nat
deriving DecidableEq, Repr, Inhabited

/-- The five registers whose reset values are unspecified: the record `CFG_RESET` of R51. -/
structure Regs where
  /-- `local_mac`. -/
  mac : Mac
  /-- `local_ip`. -/
  ip : Ip4
  /-- `subnet_mask`. -/
  mask : Ip4
  /-- `gateway`. -/
  gateway : Ip4
  /-- `dhcp_en`. -/
  dhcp : Bool
deriving DecidableEq, Repr, Inhabited

/-- DESIGN CHOICE (log 5): the parameter record a machine has right after reset. Free: no value is known. -/
opaque params : Params

/-- DESIGN CHOICE (log 3): `CFG_RESET` at the n-th reset, one arbitrary value per register per reset (R51, U2). Free. -/
opaque cfgReset : Nat → Regs

/-- DESIGN CHOICE (log 4): the byte at an address that nothing has written since the n-th reset, any value, fixed for
that byte and reset (R73, U1). Free. -/
opaque unwrittenByte : Nat → Nat → Byte

/-- DESIGN CHOICE (log 11): a byte of a stream operand that the command word counts and the host did not supply; the
spec states no value. Free. -/
opaque missingByte : Nat → Byte

/-- `PROTOCOL_VIOLATION(state, cls, cls_fresh)` (R9, R401, D18): for this hardware it is never true (log 6). -/
def protocolViolation (_state : BitVec 4) (_cls : BitVec 14) (_clsFresh : Bool) : Bool := false

end Config

end Sys2Proof
end

