-- ==== Sys2Proof/Syntax.lean ====
section
/-! DEFINITION. The syntax of PE: one constructor of `Instr` per row of spec/opcode_table.json. -/

namespace Sys2Proof

/-- The 46 header fields of the parser (R124, R101 to R108). -/
inductive Field where
  | ethDst
  | ethSrc
  | ethType
  | arpHtype
  | arpPtype
  | arpHlen
  | arpPlen
  | arpOper
  | arpSha
  | arpSpa
  | arpTha
  | arpTpa
  | ipVer
  | ipIhl
  | ipTos
  | ipLen
  | ipId
  | ipFlagsfrag
  | ipTtl
  | ipProto
  | ipCsum
  | ipSrc
  | ipDst
  | icmpType
  | icmpCode
  | icmpCsum
  | icmpId
  | icmpSeq
  | udpSport
  | udpDport
  | udpLen
  | udpCsum
  | tcpSport
  | tcpDport
  | tcpSeq
  | tcpAck
  | tcpDoff
  | tcpFlags
  | tcpOffsflags
  | tcpWin
  | tcpCsum
  | tcpUrg
  | mqttCtrl
  | mqttType
  | mqttFlags
  | mqttRl
deriving DecidableEq, Repr

/-- The frame fields that hold the wire discriminators of R110. -/
inductive WireField where
  /-- `ETH_TYPE`, 16 bits at `buf[12..14)`. -/
  | ethType
  /-- `ARP_OPER`, 16 bits at `buf[20..22)`. -/
  | arpOper
  /-- `IP_PROTO`, 8 bits at `buf[23]`. -/
  | ipProto
  /-- `ICMP_TYPE`, 8 bits at `buf[L4]`. -/
  | icmpType
  /-- `TCP_FLAGS`, 8 bits at `buf[L4+13]`. -/
  | tcpFlags
  /-- `MQTT_CTRL`, 8 bits at `buf[PL]`. -/
  | mqttCtrl
deriving DecidableEq, Repr

/-- The instructions of PE: its commands (R121 to R126) and the wire discriminators (R108, R110). The operands are
those of the command word; `wdata`, `s0` and `s1` come from the other ports (R120). Lengths, offsets and indexes are
counts (log 18); `Instr.wellFormed` says that they fit their 12-bit fields. -/
inductive Instr where
  /-- `RX_POLL` (R430). -/
  | rxPoll (len : Nat)
  /-- `TX` (R431). -/
  | tx
  /-- `BUF_RD` (R432). -/
  | bufRd (idx : Nat)
  /-- `BUF_WR` (R433). -/
  | bufWr (idx : Nat) (byte : Byte)
  /-- `BUF_SETLEN` (R434). -/
  | bufSetlen (len : Nat)
  /-- `BUF_GETLEN` (R435). -/
  | bufGetlen
  /-- `CFG_SET_MAC` (R441). -/
  | cfgSetMac
  /-- `CFG_SET_IP` (R443). -/
  | cfgSetIp
  /-- `CFG_SET_SN` (R445). -/
  | cfgSetSn
  /-- `CFG_SET_GW` (R447). -/
  | cfgSetGw
  /-- `CFG_GET_MAC` (R440). -/
  | cfgGetMac
  /-- `CFG_GET_IP` (R442). -/
  | cfgGetIp
  /-- `CFG_GET_SN` (R444). -/
  | cfgGetSn
  /-- `CFG_GET_GW` (R446). -/
  | cfgGetGw
  /-- `CFG_GET_DHCP` (R448). -/
  | cfgGetDhcp
  /-- `CFG_SET_DHCP` (R449). -/
  | cfgSetDhcp (k : Bool)
  /-- `CK_RESET` (R152). -/
  | ckReset
  /-- `CK_ACC` (R153). -/
  | ckAcc (off len : Nat)
  /-- `CK_ACC_W16` (R154). -/
  | ckAccW16 (imm : BitVec 16)
  /-- `CK_FINAL` (R155). -/
  | ckFinal
  /-- `GET_ETH_DST` (R200). -/
  | getEthDst
  /-- `GET_ETH_SRC` (R201). -/
  | getEthSrc
  /-- `GET_ETH_TYPE` (R202). -/
  | getEthType
  /-- `GET_ARP_HTYPE` (R203). -/
  | getArpHtype
  /-- `GET_ARP_PTYPE` (R204). -/
  | getArpPtype
  /-- `GET_ARP_HLEN` (R205). -/
  | getArpHlen
  /-- `GET_ARP_PLEN` (R206). -/
  | getArpPlen
  /-- `GET_ARP_OPER` (R207). -/
  | getArpOper
  /-- `GET_ARP_SHA` (R208). -/
  | getArpSha
  /-- `GET_ARP_SPA` (R209). -/
  | getArpSpa
  /-- `GET_ARP_THA` (R210). -/
  | getArpTha
  /-- `GET_ARP_TPA` (R211). -/
  | getArpTpa
  /-- `GET_IP_VER` (R212). -/
  | getIpVer
  /-- `GET_IP_IHL` (R213). -/
  | getIpIhl
  /-- `GET_IP_TOS` (R214). -/
  | getIpTos
  /-- `GET_IP_LEN` (R215). -/
  | getIpLen
  /-- `GET_IP_ID` (R216). -/
  | getIpId
  /-- `GET_IP_FLAGSFRAG` (R217). -/
  | getIpFlagsfrag
  /-- `GET_IP_TTL` (R218). -/
  | getIpTtl
  /-- `GET_IP_PROTO` (R219). -/
  | getIpProto
  /-- `GET_IP_CSUM` (R220). -/
  | getIpCsum
  /-- `GET_IP_SRC` (R221). -/
  | getIpSrc
  /-- `GET_IP_DST` (R222). -/
  | getIpDst
  /-- `GET_ICMP_TYPE` (R223). -/
  | getIcmpType
  /-- `GET_ICMP_CODE` (R224). -/
  | getIcmpCode
  /-- `GET_ICMP_CSUM` (R225). -/
  | getIcmpCsum
  /-- `GET_ICMP_ID` (R226). -/
  | getIcmpId
  /-- `GET_ICMP_SEQ` (R227). -/
  | getIcmpSeq
  /-- `GET_UDP_SPORT` (R228). -/
  | getUdpSport
  /-- `GET_UDP_DPORT` (R229). -/
  | getUdpDport
  /-- `GET_UDP_LEN` (R230). -/
  | getUdpLen
  /-- `GET_UDP_CSUM` (R231). -/
  | getUdpCsum
  /-- `GET_TCP_SPORT` (R232). -/
  | getTcpSport
  /-- `GET_TCP_DPORT` (R233). -/
  | getTcpDport
  /-- `GET_TCP_SEQ` (R234). -/
  | getTcpSeq
  /-- `GET_TCP_ACK` (R235). -/
  | getTcpAck
  /-- `GET_TCP_DOFF` (R236). -/
  | getTcpDoff
  /-- `GET_TCP_FLAGS` (R237). -/
  | getTcpFlags
  /-- `GET_TCP_OFFSFLAGS` (R238). -/
  | getTcpOffsflags
  /-- `GET_TCP_WIN` (R239). -/
  | getTcpWin
  /-- `GET_TCP_CSUM` (R240). -/
  | getTcpCsum
  /-- `GET_TCP_URG` (R241). -/
  | getTcpUrg
  /-- `GET_MQTT_CTRL` (R242). -/
  | getMqttCtrl
  /-- `GET_MQTT_TYPE` (R243). -/
  | getMqttType
  /-- `GET_MQTT_FLAGS` (R244). -/
  | getMqttFlags
  /-- `GET_MQTT_RL` (R245). -/
  | getMqttRl
  /-- `PUT_ETH_DST` (R250). -/
  | putEthDst
  /-- `PUT_ETH_SRC` (R251). -/
  | putEthSrc
  /-- `PUT_ETH_TYPE` (R252). -/
  | putEthType
  /-- `PUT_ARP_HTYPE` (R253). -/
  | putArpHtype
  /-- `PUT_ARP_PTYPE` (R254). -/
  | putArpPtype
  /-- `PUT_ARP_HLEN` (R255). -/
  | putArpHlen
  /-- `PUT_ARP_PLEN` (R256). -/
  | putArpPlen
  /-- `PUT_ARP_OPER` (R257). -/
  | putArpOper
  /-- `PUT_ARP_SHA` (R258). -/
  | putArpSha
  /-- `PUT_ARP_SPA` (R259). -/
  | putArpSpa
  /-- `PUT_ARP_THA` (R260). -/
  | putArpTha
  /-- `PUT_ARP_TPA` (R261). -/
  | putArpTpa
  /-- `PUT_IP_VER` (R262). -/
  | putIpVer
  /-- `PUT_IP_IHL` (R263). -/
  | putIpIhl
  /-- `PUT_IP_TOS` (R264). -/
  | putIpTos
  /-- `PUT_IP_LEN` (R265). -/
  | putIpLen
  /-- `PUT_IP_ID` (R266). -/
  | putIpId
  /-- `PUT_IP_FLAGSFRAG` (R267). -/
  | putIpFlagsfrag
  /-- `PUT_IP_TTL` (R268). -/
  | putIpTtl
  /-- `PUT_IP_PROTO` (R269). -/
  | putIpProto
  /-- `PUT_IP_CSUM` (R270). -/
  | putIpCsum
  /-- `PUT_IP_SRC` (R271). -/
  | putIpSrc
  /-- `PUT_IP_DST` (R272). -/
  | putIpDst
  /-- `PUT_ICMP_TYPE` (R273). -/
  | putIcmpType
  /-- `PUT_ICMP_CODE` (R274). -/
  | putIcmpCode
  /-- `PUT_ICMP_CSUM` (R275). -/
  | putIcmpCsum
  /-- `PUT_ICMP_ID` (R276). -/
  | putIcmpId
  /-- `PUT_ICMP_SEQ` (R277). -/
  | putIcmpSeq
  /-- `PUT_UDP_SPORT` (R278). -/
  | putUdpSport
  /-- `PUT_UDP_DPORT` (R279). -/
  | putUdpDport
  /-- `PUT_UDP_LEN` (R280). -/
  | putUdpLen
  /-- `PUT_UDP_CSUM` (R281). -/
  | putUdpCsum
  /-- `PUT_TCP_SPORT` (R282). -/
  | putTcpSport
  /-- `PUT_TCP_DPORT` (R283). -/
  | putTcpDport
  /-- `PUT_TCP_SEQ` (R284). -/
  | putTcpSeq
  /-- `PUT_TCP_ACK` (R285). -/
  | putTcpAck
  /-- `PUT_TCP_DOFF` (R286). -/
  | putTcpDoff
  /-- `PUT_TCP_FLAGS` (R287). -/
  | putTcpFlags
  /-- `PUT_TCP_OFFSFLAGS` (R288). -/
  | putTcpOffsflags
  /-- `PUT_TCP_WIN` (R289). -/
  | putTcpWin
  /-- `PUT_TCP_CSUM` (R290). -/
  | putTcpCsum
  /-- `PUT_TCP_URG` (R291). -/
  | putTcpUrg
  /-- `PUT_MQTT_CTRL` (R292). -/
  | putMqttCtrl
  /-- `PUT_MQTT_TYPE` (R293). -/
  | putMqttType
  /-- `PUT_MQTT_FLAGS` (R294). -/
  | putMqttFlags
  /-- `PUT_MQTT_RL` (R295). -/
  | putMqttRl
  /-- `GET_LOC_L4` (R190). -/
  | getLocL4
  /-- `GET_LOC_PL` (R191). -/
  | getLocPl
  /-- `GET_LEN_TPL` (R192). -/
  | getLenTpl
  /-- `GET_LEN_UDPPL` (R193). -/
  | getLenUdppl
  /-- `GET_LEN_ICMPDATA` (R194). -/
  | getLenIcmpdata
  /-- `IS_IP` (R304). -/
  | isIp
  /-- `IS_IP_UNICAST` (R305). -/
  | isIpUnicast
  /-- `IS_ARP_REQ` (R306). -/
  | isArpReq
  /-- `IS_PING_REQ` (R308). -/
  | isPingReq
  /-- `IS_UDP_VALID` (R309). -/
  | isUdpValid
  /-- `IS_TCP` (R307). -/
  | isTcp
  /-- `IS_SYNACK` (R310). -/
  | isSynack
  /-- `IS_ACK` (R311). -/
  | isAck
  /-- `IS_PSHACK` (R312). -/
  | isPshack
  /-- `IS_FINACK` (R313). -/
  | isFinack
  /-- `IS_CONNACK` (R314). -/
  | isConnack
  /-- `IS_PUBSUBACK` (R315). -/
  | isPubsuback
  /-- `IS_UNSUBACK` (R316). -/
  | isUnsuback
  /-- `IS_PINGRESP` (R317). -/
  | isPingresp
  /-- `CLS_GET` (R319). -/
  | clsGet
  /-- `CLASSIFY` (R318). -/
  | classify
  /-- `BLD_ARP_REPLY` (R344). -/
  | bldArpReply
  /-- `BLD_ARP_REQ` (R345). -/
  | bldArpReq
  /-- `BLD_ICMP_REPLY` (R346). -/
  | bldIcmpReply
  /-- `BLD_UDP_REPLY` (R347). -/
  | bldUdpReply (s0len : Nat)
  /-- `BLD_TCP_SYN` (R352). -/
  | bldTcpSyn
  /-- `BLD_TCP_ACK` (R353). -/
  | bldTcpAck
  /-- `BLD_MQTT_CONNECT` (R355). -/
  | bldMqttConnect
  /-- `BLD_MQTT_PUBLISH` (R356). -/
  | bldMqttPublish (s0len s1len : Nat)
  /-- `BLD_MQTT_SUBSCRIBE` (R357). -/
  | bldMqttSubscribe (s0len : Nat)
  /-- `BLD_MQTT_UNSUBSCRIBE` (R358). -/
  | bldMqttUnsubscribe (s0len : Nat)
  /-- `BLD_MQTT_DISCONNECT` (R359). -/
  | bldMqttDisconnect
  /-- `BLD_MQTT_PINGREQ` (R360). -/
  | bldMqttPingreq
  /-- `REQ` (R384). -/
  | req (k : BitVec 2)
  /-- `STEP` (R385). -/
  | step (tw : Bool)
  /-- `SSM_GET` (R396). -/
  | ssmGet
  /-- `SSM_GET_PORT` (R397). -/
  | ssmGetPort
  /-- `WIRE_ETH_TYPE_0800`: `ETH_TYPE` = 0x0800, IPv4 (R110). -/
  | wireEthType0800
  /-- `WIRE_ETH_TYPE_0806`: `ETH_TYPE` = 0x0806, ARP (R110). -/
  | wireEthType0806
  /-- `WIRE_ARP_OPER_0001`: `ARP_OPER` = 0x0001, request (R110). -/
  | wireArpOper0001
  /-- `WIRE_ARP_OPER_0002`: `ARP_OPER` = 0x0002, reply (R110). -/
  | wireArpOper0002
  /-- `WIRE_IP_PROTO_01`: `IP_PROTO` = 0x01, ICMP (R110). -/
  | wireIpProto01
  /-- `WIRE_IP_PROTO_06`: `IP_PROTO` = 0x06, TCP (R110). -/
  | wireIpProto06
  /-- `WIRE_IP_PROTO_11`: `IP_PROTO` = 0x11, UDP (R110). -/
  | wireIpProto11
  /-- `WIRE_ICMP_TYPE_08`: `ICMP_TYPE` = 0x08, echo request (R110). -/
  | wireIcmpType08
  /-- `WIRE_ICMP_TYPE_00`: `ICMP_TYPE` = 0x00, echo reply (R110). -/
  | wireIcmpType00
  /-- `WIRE_TCP_FLAGS_12`: `TCP_FLAGS` = 0x12, SYN+ACK (R110). -/
  | wireTcpFlags12
  /-- `WIRE_TCP_FLAGS_10`: `TCP_FLAGS` = 0x10, ACK alone (R110). -/
  | wireTcpFlags10
  /-- `WIRE_TCP_FLAGS_18`: `TCP_FLAGS` = 0x18, PSH+ACK (R110). -/
  | wireTcpFlags18
  /-- `WIRE_TCP_FLAGS_11`: `TCP_FLAGS` = 0x11, FIN+ACK (R110). -/
  | wireTcpFlags11
  /-- `WIRE_TCP_FLAGS_02`: `TCP_FLAGS` = 0x02, SYN alone (written by BLD_TCP_SYN) (R110). -/
  | wireTcpFlags02
  /-- `WIRE_MQTT_CTRL_20`: `MQTT_CTRL` = 0x20, CONNACK (R110). -/
  | wireMqttCtrl20
  /-- `WIRE_MQTT_CTRL_90`: `MQTT_CTRL` = 0x90, PUBACK/SUBACK (R110). -/
  | wireMqttCtrl90
  /-- `WIRE_MQTT_CTRL_B0`: `MQTT_CTRL` = 0xB0, UNSUBACK (R110). -/
  | wireMqttCtrlB0
  /-- `WIRE_MQTT_CTRL_D0`: `MQTT_CTRL` = 0xD0, PINGRESP (R110). -/
  | wireMqttCtrlD0
  /-- `WIRE_MQTT_CTRL_10`: `MQTT_CTRL` = 0x10, CONNECT (value from general knowledge, 93_implementation_defined.md G7) (R108). -/
  | wireMqttCtrl10
  /-- `WIRE_MQTT_CTRL_30`: `MQTT_CTRL` = 0x30, PUBLISH (R110). -/
  | wireMqttCtrl30
  /-- `WIRE_MQTT_CTRL_82`: `MQTT_CTRL` = 0x82, SUBSCRIBE (R110). -/
  | wireMqttCtrl82
  /-- `WIRE_MQTT_CTRL_A2`: `MQTT_CTRL` = 0xA2, UNSUBSCRIBE (R110). -/
  | wireMqttCtrlA2
  /-- `WIRE_MQTT_CTRL_E0`: `MQTT_CTRL` = 0xE0, DISCONNECT (R110). -/
  | wireMqttCtrlE0
  /-- `WIRE_MQTT_CTRL_C0`: `MQTT_CTRL` = 0xC0, PINGREQ (R110). -/
  | wireMqttCtrlC0
deriving DecidableEq, Repr

/-- The `GET_<field>` command of a field. -/
def Field.getInstr : Field → Instr
  | .ethDst => .getEthDst
  | .ethSrc => .getEthSrc
  | .ethType => .getEthType
  | .arpHtype => .getArpHtype
  | .arpPtype => .getArpPtype
  | .arpHlen => .getArpHlen
  | .arpPlen => .getArpPlen
  | .arpOper => .getArpOper
  | .arpSha => .getArpSha
  | .arpSpa => .getArpSpa
  | .arpTha => .getArpTha
  | .arpTpa => .getArpTpa
  | .ipVer => .getIpVer
  | .ipIhl => .getIpIhl
  | .ipTos => .getIpTos
  | .ipLen => .getIpLen
  | .ipId => .getIpId
  | .ipFlagsfrag => .getIpFlagsfrag
  | .ipTtl => .getIpTtl
  | .ipProto => .getIpProto
  | .ipCsum => .getIpCsum
  | .ipSrc => .getIpSrc
  | .ipDst => .getIpDst
  | .icmpType => .getIcmpType
  | .icmpCode => .getIcmpCode
  | .icmpCsum => .getIcmpCsum
  | .icmpId => .getIcmpId
  | .icmpSeq => .getIcmpSeq
  | .udpSport => .getUdpSport
  | .udpDport => .getUdpDport
  | .udpLen => .getUdpLen
  | .udpCsum => .getUdpCsum
  | .tcpSport => .getTcpSport
  | .tcpDport => .getTcpDport
  | .tcpSeq => .getTcpSeq
  | .tcpAck => .getTcpAck
  | .tcpDoff => .getTcpDoff
  | .tcpFlags => .getTcpFlags
  | .tcpOffsflags => .getTcpOffsflags
  | .tcpWin => .getTcpWin
  | .tcpCsum => .getTcpCsum
  | .tcpUrg => .getTcpUrg
  | .mqttCtrl => .getMqttCtrl
  | .mqttType => .getMqttType
  | .mqttFlags => .getMqttFlags
  | .mqttRl => .getMqttRl

/-- The `PUT_<field>` command of a field. -/
def Field.putInstr : Field → Instr
  | .ethDst => .putEthDst
  | .ethSrc => .putEthSrc
  | .ethType => .putEthType
  | .arpHtype => .putArpHtype
  | .arpPtype => .putArpPtype
  | .arpHlen => .putArpHlen
  | .arpPlen => .putArpPlen
  | .arpOper => .putArpOper
  | .arpSha => .putArpSha
  | .arpSpa => .putArpSpa
  | .arpTha => .putArpTha
  | .arpTpa => .putArpTpa
  | .ipVer => .putIpVer
  | .ipIhl => .putIpIhl
  | .ipTos => .putIpTos
  | .ipLen => .putIpLen
  | .ipId => .putIpId
  | .ipFlagsfrag => .putIpFlagsfrag
  | .ipTtl => .putIpTtl
  | .ipProto => .putIpProto
  | .ipCsum => .putIpCsum
  | .ipSrc => .putIpSrc
  | .ipDst => .putIpDst
  | .icmpType => .putIcmpType
  | .icmpCode => .putIcmpCode
  | .icmpCsum => .putIcmpCsum
  | .icmpId => .putIcmpId
  | .icmpSeq => .putIcmpSeq
  | .udpSport => .putUdpSport
  | .udpDport => .putUdpDport
  | .udpLen => .putUdpLen
  | .udpCsum => .putUdpCsum
  | .tcpSport => .putTcpSport
  | .tcpDport => .putTcpDport
  | .tcpSeq => .putTcpSeq
  | .tcpAck => .putTcpAck
  | .tcpDoff => .putTcpDoff
  | .tcpFlags => .putTcpFlags
  | .tcpOffsflags => .putTcpOffsflags
  | .tcpWin => .putTcpWin
  | .tcpCsum => .putTcpCsum
  | .tcpUrg => .putTcpUrg
  | .mqttCtrl => .putMqttCtrl
  | .mqttType => .putMqttType
  | .mqttFlags => .putMqttFlags
  | .mqttRl => .putMqttRl

end Sys2Proof
end

