-- ==== Sys2Proof/WellFormed.lean ====
section
/-! DEFINITION. Which terms of `Instr` are instructions: every count fits the 12-bit field that carries it (R121). -/

namespace Sys2Proof

/-- A length, offset or index operand fits its 12-bit field of the command word (R121). -/
def fits12 (n : Nat) : Bool := decide (n < 4096)

/-- The instruction's operands fit the fields of its format (R121). Every other operand fits by its type. -/
def Instr.wellFormed : Instr → Bool
  | .rxPoll len => fits12 len
  | .bufRd idx => fits12 idx
  | .bufWr idx _ => fits12 idx
  | .bufSetlen len => fits12 len
  | .cfgSetDhcp _ => true
  | .ckAcc off len => fits12 off && fits12 len
  | .ckAccW16 _ => true
  | .bldUdpReply s0len => fits12 s0len
  | .bldMqttPublish s0len s1len => fits12 s0len && fits12 s1len
  | .bldMqttSubscribe s0len => fits12 s0len
  | .bldMqttUnsubscribe s0len => fits12 s0len
  | .req _ => true
  | .step _ => true
  | .tx | .bufGetlen | .cfgSetMac | .cfgSetIp
  | .cfgSetSn | .cfgSetGw | .cfgGetMac | .cfgGetIp
  | .cfgGetSn | .cfgGetGw | .cfgGetDhcp | .ckReset
  | .ckFinal | .getEthDst | .getEthSrc | .getEthType
  | .getArpHtype | .getArpPtype | .getArpHlen | .getArpPlen
  | .getArpOper | .getArpSha | .getArpSpa | .getArpTha
  | .getArpTpa | .getIpVer | .getIpIhl | .getIpTos
  | .getIpLen | .getIpId | .getIpFlagsfrag | .getIpTtl
  | .getIpProto | .getIpCsum | .getIpSrc | .getIpDst
  | .getIcmpType | .getIcmpCode | .getIcmpCsum | .getIcmpId
  | .getIcmpSeq | .getUdpSport | .getUdpDport | .getUdpLen
  | .getUdpCsum | .getTcpSport | .getTcpDport | .getTcpSeq
  | .getTcpAck | .getTcpDoff | .getTcpFlags | .getTcpOffsflags
  | .getTcpWin | .getTcpCsum | .getTcpUrg | .getMqttCtrl
  | .getMqttType | .getMqttFlags | .getMqttRl | .putEthDst
  | .putEthSrc | .putEthType | .putArpHtype | .putArpPtype
  | .putArpHlen | .putArpPlen | .putArpOper | .putArpSha
  | .putArpSpa | .putArpTha | .putArpTpa | .putIpVer
  | .putIpIhl | .putIpTos | .putIpLen | .putIpId
  | .putIpFlagsfrag | .putIpTtl | .putIpProto | .putIpCsum
  | .putIpSrc | .putIpDst | .putIcmpType | .putIcmpCode
  | .putIcmpCsum | .putIcmpId | .putIcmpSeq | .putUdpSport
  | .putUdpDport | .putUdpLen | .putUdpCsum | .putTcpSport
  | .putTcpDport | .putTcpSeq | .putTcpAck | .putTcpDoff
  | .putTcpFlags | .putTcpOffsflags | .putTcpWin | .putTcpCsum
  | .putTcpUrg | .putMqttCtrl | .putMqttType | .putMqttFlags
  | .putMqttRl | .getLocL4 | .getLocPl | .getLenTpl
  | .getLenUdppl | .getLenIcmpdata | .isIp | .isIpUnicast
  | .isArpReq | .isPingReq | .isUdpValid | .isTcp
  | .isSynack | .isAck | .isPshack | .isFinack
  | .isConnack | .isPubsuback | .isUnsuback | .isPingresp
  | .clsGet | .classify | .bldArpReply | .bldArpReq
  | .bldIcmpReply | .bldTcpSyn | .bldTcpAck | .bldMqttConnect
  | .bldMqttDisconnect | .bldMqttPingreq | .ssmGet | .ssmGetPort
  | .wireEthType0800 | .wireEthType0806 | .wireArpOper0001 | .wireArpOper0002
  | .wireIpProto01 | .wireIpProto06 | .wireIpProto11 | .wireIcmpType08
  | .wireIcmpType00 | .wireTcpFlags12 | .wireTcpFlags10 | .wireTcpFlags18
  | .wireTcpFlags11 | .wireTcpFlags02 | .wireMqttCtrl20 | .wireMqttCtrl90
  | .wireMqttCtrlB0 | .wireMqttCtrlD0 | .wireMqttCtrl10 | .wireMqttCtrl30
  | .wireMqttCtrl82 | .wireMqttCtrlA2 | .wireMqttCtrlE0 | .wireMqttCtrlC0 => true

end Sys2Proof
end

