-- ==== Sys2Proof/Decode.lean ====
section
/-! DEFINITION. Decoding of command words (R121 to R128) and of wire discriminators (R108, R110), total, rejecting by
name; then the encoder, written from the same tables; then the reading of a table word. -/

namespace Sys2Proof

/-- Why a word is no instruction. For a command word each reason is the `ERR_OPCODE` of R128. -/
inductive DecodeError where
  /-- The opcode byte is not one of R122 to R126 (R128). -/
  | unassignedOpcode
  /-- A field that must be zero is not (R121, R128). -/
  | reservedBits
  /-- The field id of a `GET` or `PUT` is not assigned (R124, R128). -/
  | unassignedField
  /-- A `PUT` of a derived quantity, `fid` 0x70 to 0x74 (R124). -/
  | putOfDerived
  /-- A frame field holds a value that is no discriminator of R108 and R110. -/
  | unknownDiscriminator
deriving DecidableEq, Repr

/-- A word that PE decodes: a command word on the command port (R120), or a value found in a frame field (R110). -/
inductive Encoded where
  /-- The 32-bit command word `cw`. -/
  | command (cw : BitVec 32)
  /-- The value of a frame field; an 8-bit field's value is zero-extended. -/
  | wire (f : WireField) (v : BitVec 16)
deriving DecidableEq, Repr

/-- `cw[31:24]`, the opcode (R121). -/
def cwOp (cw : BitVec 32) : Nat := cw.toNat / 16777216

/-- `cw[23:12]` (R121). -/
def cwHi (cw : BitVec 32) : Nat := cw.toNat / 4096 % 4096

/-- `cw[11:0]` (R121). -/
def cwLo (cw : BitVec 32) : Nat := cw.toNat % 4096

/-- An instruction whose must-be-zero bits are zero, else the rejection of R128. -/
def ifZero (zero : Bool) (i : Instr) : Except DecodeError Instr :=
  if zero then .ok i else .error .reservedBits

/-- The field of a field id, `fid` (R124). -/
def fieldOfFid : Nat → Option Field
  | 0x00 => some .ethDst
  | 0x01 => some .ethSrc
  | 0x02 => some .ethType
  | 0x10 => some .arpHtype
  | 0x11 => some .arpPtype
  | 0x12 => some .arpHlen
  | 0x13 => some .arpPlen
  | 0x14 => some .arpOper
  | 0x15 => some .arpSha
  | 0x16 => some .arpSpa
  | 0x17 => some .arpTha
  | 0x18 => some .arpTpa
  | 0x20 => some .ipVer
  | 0x21 => some .ipIhl
  | 0x22 => some .ipTos
  | 0x23 => some .ipLen
  | 0x24 => some .ipId
  | 0x25 => some .ipFlagsfrag
  | 0x26 => some .ipTtl
  | 0x27 => some .ipProto
  | 0x28 => some .ipCsum
  | 0x29 => some .ipSrc
  | 0x2A => some .ipDst
  | 0x30 => some .icmpType
  | 0x31 => some .icmpCode
  | 0x32 => some .icmpCsum
  | 0x33 => some .icmpId
  | 0x34 => some .icmpSeq
  | 0x40 => some .udpSport
  | 0x41 => some .udpDport
  | 0x42 => some .udpLen
  | 0x43 => some .udpCsum
  | 0x50 => some .tcpSport
  | 0x51 => some .tcpDport
  | 0x52 => some .tcpSeq
  | 0x53 => some .tcpAck
  | 0x54 => some .tcpDoff
  | 0x55 => some .tcpFlags
  | 0x56 => some .tcpOffsflags
  | 0x57 => some .tcpWin
  | 0x58 => some .tcpCsum
  | 0x59 => some .tcpUrg
  | 0x60 => some .mqttCtrl
  | 0x61 => some .mqttType
  | 0x62 => some .mqttFlags
  | 0x63 => some .mqttRl
  | _ => none

/-- The derived quantity of a field id (R124): `GET` only. -/
def derivedOfFid : Nat → Option Instr
  | 0x70 => some .getLocL4
  | 0x71 => some .getLocPl
  | 0x72 => some .getLenTpl
  | 0x73 => some .getLenUdppl
  | 0x74 => some .getLenIcmpdata
  | _ => none

/-- Opcode 0x30, `GET` (R124). -/
def decodeGet (fid : Nat) (zero : Bool) : Except DecodeError Instr :=
  match fieldOfFid fid with
  | some f => ifZero zero f.getInstr
  | none =>
    match derivedOfFid fid with
    | some i => ifZero zero i
    | none => .error .unassignedField

/-- Opcode 0x31, `PUT` (R124): a derived quantity has no `PUT`. -/
def decodePut (fid : Nat) (zero : Bool) : Except DecodeError Instr :=
  match fieldOfFid fid with
  | some f => ifZero zero f.putInstr
  | none =>
    match derivedOfFid fid with
    | some _ => .error .putOfDerived
    | none => .error .unassignedField

/-- The instruction of an opcode, `cw[23:12]` and `cw[11:0]` (R121 to R126). -/
def decodeParts (op hi lo : Nat) : Except DecodeError Instr :=
  match op with
  | 0x01 => ifZero (hi == 0) (.rxPoll lo)
  | 0x02 => ifZero (hi == 0 && lo == 0) .tx
  | 0x03 => ifZero (lo == 0) (.bufRd hi)
  | 0x04 => ifZero (lo / 256 == 0) (.bufWr hi (BitVec.ofNat 8 lo))
  | 0x05 => ifZero (hi == 0) (.bufSetlen lo)
  | 0x06 => ifZero (hi == 0 && lo == 0) .bufGetlen
  | 0x08 => ifZero (hi == 0 && lo == 0) .cfgSetMac
  | 0x0A => ifZero (hi == 0 && lo == 0) .cfgSetIp
  | 0x0C => ifZero (hi == 0 && lo == 0) .cfgSetSn
  | 0x0E => ifZero (hi == 0 && lo == 0) .cfgSetGw
  | 0x09 => ifZero (hi == 0 && lo == 0) .cfgGetMac
  | 0x0B => ifZero (hi == 0 && lo == 0) .cfgGetIp
  | 0x0D => ifZero (hi == 0 && lo == 0) .cfgGetSn
  | 0x0F => ifZero (hi == 0 && lo == 0) .cfgGetGw
  | 0x11 => ifZero (hi == 0 && lo == 0) .cfgGetDhcp
  | 0x10 => ifZero (hi == 0 && lo / 2 == 0) (.cfgSetDhcp (lo == 1))
  | 0x20 => ifZero (hi == 0 && lo == 0) .ckReset
  | 0x21 => .ok (.ckAcc hi lo)
  | 0x22 => ifZero (hi / 16 == 0) (.ckAccW16 (BitVec.ofNat 16 (hi % 16 * 4096 + lo)))
  | 0x23 => ifZero (hi == 0 && lo == 0) .ckFinal
  | 0x30 => decodeGet (hi / 16) (hi % 16 == 0 && lo == 0)
  | 0x31 => decodePut (hi / 16) (hi % 16 == 0 && lo == 0)
  | 0x50 => ifZero (hi == 0 && lo == 0) .isIp
  | 0x51 => ifZero (hi == 0 && lo == 0) .isIpUnicast
  | 0x52 => ifZero (hi == 0 && lo == 0) .isArpReq
  | 0x53 => ifZero (hi == 0 && lo == 0) .isPingReq
  | 0x54 => ifZero (hi == 0 && lo == 0) .isUdpValid
  | 0x55 => ifZero (hi == 0 && lo == 0) .isTcp
  | 0x56 => ifZero (hi == 0 && lo == 0) .isSynack
  | 0x57 => ifZero (hi == 0 && lo == 0) .isAck
  | 0x58 => ifZero (hi == 0 && lo == 0) .isPshack
  | 0x59 => ifZero (hi == 0 && lo == 0) .isFinack
  | 0x5A => ifZero (hi == 0 && lo == 0) .isConnack
  | 0x5B => ifZero (hi == 0 && lo == 0) .isPubsuback
  | 0x5C => ifZero (hi == 0 && lo == 0) .isUnsuback
  | 0x5D => ifZero (hi == 0 && lo == 0) .isPingresp
  | 0x5E => ifZero (hi == 0 && lo == 0) .clsGet
  | 0x5F => ifZero (hi == 0 && lo == 0) .classify
  | 0x60 => ifZero (hi == 0 && lo == 0) .bldArpReply
  | 0x61 => ifZero (hi == 0 && lo == 0) .bldArpReq
  | 0x62 => ifZero (hi == 0 && lo == 0) .bldIcmpReply
  | 0x63 => ifZero (lo == 0) (.bldUdpReply hi)
  | 0x64 => ifZero (hi == 0 && lo == 0) .bldTcpSyn
  | 0x65 => ifZero (hi == 0 && lo == 0) .bldTcpAck
  | 0x66 => ifZero (hi == 0 && lo == 0) .bldMqttConnect
  | 0x67 => .ok (.bldMqttPublish hi lo)
  | 0x68 => ifZero (lo == 0) (.bldMqttSubscribe hi)
  | 0x69 => ifZero (lo == 0) (.bldMqttUnsubscribe hi)
  | 0x6A => ifZero (hi == 0 && lo == 0) .bldMqttDisconnect
  | 0x6B => ifZero (hi == 0 && lo == 0) .bldMqttPingreq
  | 0x70 => ifZero (hi == 0 && lo / 4 == 0) (.req (BitVec.ofNat 2 lo))
  | 0x71 => ifZero (hi == 0 && lo / 2 == 0) (.step (lo == 1))
  | 0x72 => ifZero (hi == 0 && lo == 0) .ssmGet
  | 0x73 => ifZero (hi == 0 && lo == 0) .ssmGetPort
  | _ => .error .unassignedOpcode

/-- Decode a command word (R121 to R128). -/
def decodeCommand (cw : BitVec 32) : Except DecodeError Instr :=
  decodeParts (cwOp cw) (cwHi cw) (cwLo cw)

/-- The discriminator that a frame field's value is, by the rows of R110 (and CONNECT's control byte, R108). -/
def decodeWire : WireField → Nat → Except DecodeError Instr
  | .ethType, 0x0800 => .ok .wireEthType0800
  | .ethType, 0x0806 => .ok .wireEthType0806
  | .arpOper, 0x0001 => .ok .wireArpOper0001
  | .arpOper, 0x0002 => .ok .wireArpOper0002
  | .ipProto, 0x01 => .ok .wireIpProto01
  | .ipProto, 0x06 => .ok .wireIpProto06
  | .ipProto, 0x11 => .ok .wireIpProto11
  | .icmpType, 0x08 => .ok .wireIcmpType08
  | .icmpType, 0x00 => .ok .wireIcmpType00
  | .tcpFlags, 0x12 => .ok .wireTcpFlags12
  | .tcpFlags, 0x10 => .ok .wireTcpFlags10
  | .tcpFlags, 0x18 => .ok .wireTcpFlags18
  | .tcpFlags, 0x11 => .ok .wireTcpFlags11
  | .tcpFlags, 0x02 => .ok .wireTcpFlags02
  | .mqttCtrl, 0x20 => .ok .wireMqttCtrl20
  | .mqttCtrl, 0x90 => .ok .wireMqttCtrl90
  | .mqttCtrl, 0xB0 => .ok .wireMqttCtrlB0
  | .mqttCtrl, 0xD0 => .ok .wireMqttCtrlD0
  | .mqttCtrl, 0x10 => .ok .wireMqttCtrl10
  | .mqttCtrl, 0x30 => .ok .wireMqttCtrl30
  | .mqttCtrl, 0x82 => .ok .wireMqttCtrl82
  | .mqttCtrl, 0xA2 => .ok .wireMqttCtrlA2
  | .mqttCtrl, 0xE0 => .ok .wireMqttCtrlE0
  | .mqttCtrl, 0xC0 => .ok .wireMqttCtrlC0
  | _, _ => .error .unknownDiscriminator

/-- Decode whatever PE decodes: total, rejecting by name. -/
def decode : Encoded → Except DecodeError Instr
  | .command cw => decodeCommand cw
  | .wire f v => decodeWire f v.toNat

/-- A command word from its opcode, `cw[23:12]` and `cw[11:0]` (R121). -/
def packCommand (op hi lo : Nat) : Encoded :=
  .command (BitVec.ofNat 32 (op * 16777216 + hi * 4096 + lo))

/-- The field id of a field (R124). -/
def Field.fid : Field → Nat
  | .ethDst => 0x00
  | .ethSrc => 0x01
  | .ethType => 0x02
  | .arpHtype => 0x10
  | .arpPtype => 0x11
  | .arpHlen => 0x12
  | .arpPlen => 0x13
  | .arpOper => 0x14
  | .arpSha => 0x15
  | .arpSpa => 0x16
  | .arpTha => 0x17
  | .arpTpa => 0x18
  | .ipVer => 0x20
  | .ipIhl => 0x21
  | .ipTos => 0x22
  | .ipLen => 0x23
  | .ipId => 0x24
  | .ipFlagsfrag => 0x25
  | .ipTtl => 0x26
  | .ipProto => 0x27
  | .ipCsum => 0x28
  | .ipSrc => 0x29
  | .ipDst => 0x2A
  | .icmpType => 0x30
  | .icmpCode => 0x31
  | .icmpCsum => 0x32
  | .icmpId => 0x33
  | .icmpSeq => 0x34
  | .udpSport => 0x40
  | .udpDport => 0x41
  | .udpLen => 0x42
  | .udpCsum => 0x43
  | .tcpSport => 0x50
  | .tcpDport => 0x51
  | .tcpSeq => 0x52
  | .tcpAck => 0x53
  | .tcpDoff => 0x54
  | .tcpFlags => 0x55
  | .tcpOffsflags => 0x56
  | .tcpWin => 0x57
  | .tcpCsum => 0x58
  | .tcpUrg => 0x59
  | .mqttCtrl => 0x60
  | .mqttType => 0x61
  | .mqttFlags => 0x62
  | .mqttRl => 0x63

/-- The `GET` word of a field id (R121, R124). -/
def packGet (fid : Nat) : Encoded := packCommand 0x30 (fid * 16) 0

/-- The `PUT` word of a field id (R121, R124). -/
def packPut (fid : Nat) : Encoded := packCommand 0x31 (fid * 16) 0

/-- The encoder: the word of an instruction (R110, R121 to R126). -/
def encode : Instr → Encoded
  | .rxPoll len => packCommand 0x01 0 len
  | .tx => packCommand 0x02 0 0
  | .bufRd idx => packCommand 0x03 idx 0
  | .bufWr idx byte => packCommand 0x04 idx byte.toNat
  | .bufSetlen len => packCommand 0x05 0 len
  | .bufGetlen => packCommand 0x06 0 0
  | .cfgSetMac => packCommand 0x08 0 0
  | .cfgSetIp => packCommand 0x0A 0 0
  | .cfgSetSn => packCommand 0x0C 0 0
  | .cfgSetGw => packCommand 0x0E 0 0
  | .cfgGetMac => packCommand 0x09 0 0
  | .cfgGetIp => packCommand 0x0B 0 0
  | .cfgGetSn => packCommand 0x0D 0 0
  | .cfgGetGw => packCommand 0x0F 0 0
  | .cfgGetDhcp => packCommand 0x11 0 0
  | .cfgSetDhcp k => packCommand 0x10 0 k.toNat
  | .ckReset => packCommand 0x20 0 0
  | .ckAcc off len => packCommand 0x21 off len
  | .ckAccW16 imm => packCommand 0x22 (imm.toNat / 4096) (imm.toNat % 4096)
  | .ckFinal => packCommand 0x23 0 0
  | .getEthDst => packGet (Field.fid .ethDst)
  | .getEthSrc => packGet (Field.fid .ethSrc)
  | .getEthType => packGet (Field.fid .ethType)
  | .getArpHtype => packGet (Field.fid .arpHtype)
  | .getArpPtype => packGet (Field.fid .arpPtype)
  | .getArpHlen => packGet (Field.fid .arpHlen)
  | .getArpPlen => packGet (Field.fid .arpPlen)
  | .getArpOper => packGet (Field.fid .arpOper)
  | .getArpSha => packGet (Field.fid .arpSha)
  | .getArpSpa => packGet (Field.fid .arpSpa)
  | .getArpTha => packGet (Field.fid .arpTha)
  | .getArpTpa => packGet (Field.fid .arpTpa)
  | .getIpVer => packGet (Field.fid .ipVer)
  | .getIpIhl => packGet (Field.fid .ipIhl)
  | .getIpTos => packGet (Field.fid .ipTos)
  | .getIpLen => packGet (Field.fid .ipLen)
  | .getIpId => packGet (Field.fid .ipId)
  | .getIpFlagsfrag => packGet (Field.fid .ipFlagsfrag)
  | .getIpTtl => packGet (Field.fid .ipTtl)
  | .getIpProto => packGet (Field.fid .ipProto)
  | .getIpCsum => packGet (Field.fid .ipCsum)
  | .getIpSrc => packGet (Field.fid .ipSrc)
  | .getIpDst => packGet (Field.fid .ipDst)
  | .getIcmpType => packGet (Field.fid .icmpType)
  | .getIcmpCode => packGet (Field.fid .icmpCode)
  | .getIcmpCsum => packGet (Field.fid .icmpCsum)
  | .getIcmpId => packGet (Field.fid .icmpId)
  | .getIcmpSeq => packGet (Field.fid .icmpSeq)
  | .getUdpSport => packGet (Field.fid .udpSport)
  | .getUdpDport => packGet (Field.fid .udpDport)
  | .getUdpLen => packGet (Field.fid .udpLen)
  | .getUdpCsum => packGet (Field.fid .udpCsum)
  | .getTcpSport => packGet (Field.fid .tcpSport)
  | .getTcpDport => packGet (Field.fid .tcpDport)
  | .getTcpSeq => packGet (Field.fid .tcpSeq)
  | .getTcpAck => packGet (Field.fid .tcpAck)
  | .getTcpDoff => packGet (Field.fid .tcpDoff)
  | .getTcpFlags => packGet (Field.fid .tcpFlags)
  | .getTcpOffsflags => packGet (Field.fid .tcpOffsflags)
  | .getTcpWin => packGet (Field.fid .tcpWin)
  | .getTcpCsum => packGet (Field.fid .tcpCsum)
  | .getTcpUrg => packGet (Field.fid .tcpUrg)
  | .getMqttCtrl => packGet (Field.fid .mqttCtrl)
  | .getMqttType => packGet (Field.fid .mqttType)
  | .getMqttFlags => packGet (Field.fid .mqttFlags)
  | .getMqttRl => packGet (Field.fid .mqttRl)
  | .putEthDst => packPut (Field.fid .ethDst)
  | .putEthSrc => packPut (Field.fid .ethSrc)
  | .putEthType => packPut (Field.fid .ethType)
  | .putArpHtype => packPut (Field.fid .arpHtype)
  | .putArpPtype => packPut (Field.fid .arpPtype)
  | .putArpHlen => packPut (Field.fid .arpHlen)
  | .putArpPlen => packPut (Field.fid .arpPlen)
  | .putArpOper => packPut (Field.fid .arpOper)
  | .putArpSha => packPut (Field.fid .arpSha)
  | .putArpSpa => packPut (Field.fid .arpSpa)
  | .putArpTha => packPut (Field.fid .arpTha)
  | .putArpTpa => packPut (Field.fid .arpTpa)
  | .putIpVer => packPut (Field.fid .ipVer)
  | .putIpIhl => packPut (Field.fid .ipIhl)
  | .putIpTos => packPut (Field.fid .ipTos)
  | .putIpLen => packPut (Field.fid .ipLen)
  | .putIpId => packPut (Field.fid .ipId)
  | .putIpFlagsfrag => packPut (Field.fid .ipFlagsfrag)
  | .putIpTtl => packPut (Field.fid .ipTtl)
  | .putIpProto => packPut (Field.fid .ipProto)
  | .putIpCsum => packPut (Field.fid .ipCsum)
  | .putIpSrc => packPut (Field.fid .ipSrc)
  | .putIpDst => packPut (Field.fid .ipDst)
  | .putIcmpType => packPut (Field.fid .icmpType)
  | .putIcmpCode => packPut (Field.fid .icmpCode)
  | .putIcmpCsum => packPut (Field.fid .icmpCsum)
  | .putIcmpId => packPut (Field.fid .icmpId)
  | .putIcmpSeq => packPut (Field.fid .icmpSeq)
  | .putUdpSport => packPut (Field.fid .udpSport)
  | .putUdpDport => packPut (Field.fid .udpDport)
  | .putUdpLen => packPut (Field.fid .udpLen)
  | .putUdpCsum => packPut (Field.fid .udpCsum)
  | .putTcpSport => packPut (Field.fid .tcpSport)
  | .putTcpDport => packPut (Field.fid .tcpDport)
  | .putTcpSeq => packPut (Field.fid .tcpSeq)
  | .putTcpAck => packPut (Field.fid .tcpAck)
  | .putTcpDoff => packPut (Field.fid .tcpDoff)
  | .putTcpFlags => packPut (Field.fid .tcpFlags)
  | .putTcpOffsflags => packPut (Field.fid .tcpOffsflags)
  | .putTcpWin => packPut (Field.fid .tcpWin)
  | .putTcpCsum => packPut (Field.fid .tcpCsum)
  | .putTcpUrg => packPut (Field.fid .tcpUrg)
  | .putMqttCtrl => packPut (Field.fid .mqttCtrl)
  | .putMqttType => packPut (Field.fid .mqttType)
  | .putMqttFlags => packPut (Field.fid .mqttFlags)
  | .putMqttRl => packPut (Field.fid .mqttRl)
  | .getLocL4 => packGet 0x70
  | .getLocPl => packGet 0x71
  | .getLenTpl => packGet 0x72
  | .getLenUdppl => packGet 0x73
  | .getLenIcmpdata => packGet 0x74
  | .isIp => packCommand 0x50 0 0
  | .isIpUnicast => packCommand 0x51 0 0
  | .isArpReq => packCommand 0x52 0 0
  | .isPingReq => packCommand 0x53 0 0
  | .isUdpValid => packCommand 0x54 0 0
  | .isTcp => packCommand 0x55 0 0
  | .isSynack => packCommand 0x56 0 0
  | .isAck => packCommand 0x57 0 0
  | .isPshack => packCommand 0x58 0 0
  | .isFinack => packCommand 0x59 0 0
  | .isConnack => packCommand 0x5A 0 0
  | .isPubsuback => packCommand 0x5B 0 0
  | .isUnsuback => packCommand 0x5C 0 0
  | .isPingresp => packCommand 0x5D 0 0
  | .clsGet => packCommand 0x5E 0 0
  | .classify => packCommand 0x5F 0 0
  | .bldArpReply => packCommand 0x60 0 0
  | .bldArpReq => packCommand 0x61 0 0
  | .bldIcmpReply => packCommand 0x62 0 0
  | .bldUdpReply s0len => packCommand 0x63 s0len 0
  | .bldTcpSyn => packCommand 0x64 0 0
  | .bldTcpAck => packCommand 0x65 0 0
  | .bldMqttConnect => packCommand 0x66 0 0
  | .bldMqttPublish s0len s1len => packCommand 0x67 s0len s1len
  | .bldMqttSubscribe s0len => packCommand 0x68 s0len 0
  | .bldMqttUnsubscribe s0len => packCommand 0x69 s0len 0
  | .bldMqttDisconnect => packCommand 0x6A 0 0
  | .bldMqttPingreq => packCommand 0x6B 0 0
  | .req k => packCommand 0x70 0 k.toNat
  | .step k => packCommand 0x71 0 k.toNat
  | .ssmGet => packCommand 0x72 0 0
  | .ssmGetPort => packCommand 0x73 0 0
  | .wireEthType0800 => .wire .ethType 0x0800
  | .wireEthType0806 => .wire .ethType 0x0806
  | .wireArpOper0001 => .wire .arpOper 0x0001
  | .wireArpOper0002 => .wire .arpOper 0x0002
  | .wireIpProto01 => .wire .ipProto 0x01
  | .wireIpProto06 => .wire .ipProto 0x06
  | .wireIpProto11 => .wire .ipProto 0x11
  | .wireIcmpType08 => .wire .icmpType 0x08
  | .wireIcmpType00 => .wire .icmpType 0x00
  | .wireTcpFlags12 => .wire .tcpFlags 0x12
  | .wireTcpFlags10 => .wire .tcpFlags 0x10
  | .wireTcpFlags18 => .wire .tcpFlags 0x18
  | .wireTcpFlags11 => .wire .tcpFlags 0x11
  | .wireTcpFlags02 => .wire .tcpFlags 0x02
  | .wireMqttCtrl20 => .wire .mqttCtrl 0x20
  | .wireMqttCtrl90 => .wire .mqttCtrl 0x90
  | .wireMqttCtrlB0 => .wire .mqttCtrl 0xB0
  | .wireMqttCtrlD0 => .wire .mqttCtrl 0xD0
  | .wireMqttCtrl10 => .wire .mqttCtrl 0x10
  | .wireMqttCtrl30 => .wire .mqttCtrl 0x30
  | .wireMqttCtrl82 => .wire .mqttCtrl 0x82
  | .wireMqttCtrlA2 => .wire .mqttCtrl 0xA2
  | .wireMqttCtrlE0 => .wire .mqttCtrl 0xE0
  | .wireMqttCtrlC0 => .wire .mqttCtrl 0xC0

/-- DESIGN CHOICE (log 10): the frame field an 8-bit table word is taken to stand in. The table gives two pairs of rows
the same eight bits (0x10 and 0x11); what tells them apart is the field, and the word does not carry it. The first
row of the table is taken. -/
def wireField8 : Nat → WireField
  | 0x01 => .ipProto
  | 0x06 => .ipProto
  | 0x11 => .ipProto
  | 0x08 => .icmpType
  | 0x00 => .icmpType
  | 0x12 => .tcpFlags
  | 0x10 => .tcpFlags
  | 0x18 => .tcpFlags
  | 0x02 => .tcpFlags
  | 0x20 => .mqttCtrl
  | 0x90 => .mqttCtrl
  | 0xB0 => .mqttCtrl
  | 0xD0 => .mqttCtrl
  | 0x30 => .mqttCtrl
  | 0x82 => .mqttCtrl
  | 0xA2 => .mqttCtrl
  | 0xE0 => .mqttCtrl
  | 0xC0 => .mqttCtrl
  | _ => .mqttCtrl

/-- The frame field a 16-bit table word is taken to stand in. -/
def wireField16 : Nat → WireField
  | 0x0800 => .ethType
  | 0x0806 => .ethType
  | 0x0001 => .arpOper
  | 0x0002 => .arpOper
  | _ => .ethType

/-- What a table word is presented as: up to 8 bits and up to 16 bits a value of a frame field, more bits a command
word, all of whose bits above `nbits` are zero (log 10). -/
def tableWord (nbits w : Nat) : Encoded :=
  if nbits ≤ 8 then .wire (wireField8 (w % 256)) (BitVec.ofNat 16 (w % 256))
  else if nbits ≤ 16 then .wire (wireField16 (w % 65536)) (BitVec.ofNat 16 w)
  else .command (BitVec.ofNat 32 (w % 2 ^ nbits))

/-- The instruction the decoder reads from a word of spec/opcode_table.json, none where it rejects the word. -/
def decodeTableWord (nbits w : Nat) : Option Instr :=
  match decode (tableWord nbits w) with
  | .ok i => some i
  | .error _ => none

end Sys2Proof
end

