-- ==== Sys2Proof/Machine/State.lean ====
section
/-! DEFINITION. The state of PE (R20), the ports and inputs that travel with it, and the state right after reset. -/

namespace Sys2Proof.Machine

/-- The value of the `status` output (R470). Codes 5 to 15 are never returned (U12). -/
inductive Status where
  /-- The command did what its rule says. -/
  | ok
  /-- The command word is illegal (R128). -/
  | errOpcode
  /-- An operand or a value computed from the frame is out of range. -/
  | errArg
  /-- A byte the command needs is not in frame, or an index or a built frame exceeds `BUF_CAP`. -/
  | errBounds
  /-- `state` holds a reserved code (R395). -/
  | errState
deriving DecidableEq, Repr

/-- Why PE would stop. There is no constructor: nothing makes PE stop, and a command fault is a status that leaves PE
ready for the next command (R471, R474, R488). SAFE: no step ends in a fault (log 16). -/
inductive Fault where
deriving DecidableEq, Repr

/-- Why the model gives a step no meaning. -/
inductive Refusal where
  /-- Raised by an arm of `exec` whose instruction has no meaning yet. SAFE: the model stops where PE goes on. No arm
  raises it: every row of the opcode table has its meaning. -/
  | notModelled (mnemonic : String)
deriving DecidableEq, Repr

/-- The environment's inputs to one command (R18, R49), under no law (U3, U4, U5). -/
structure Env where
  /-- RX_POLL: the frame the transport offers, none when nothing is available: `avail` and `f` of R430. -/
  rxFrame : Option (List Byte)
  /-- RX_POLL: whether the transport has detected a receive-buffer overflow: `ovf` of R430. -/
  rxOvf : Bool
  /-- TX: the transport's success bit `ok` (R431). -/
  txOk : Bool
  /-- BLD_TCP_SYN: the ephemeral port drawn, as its distance from `EPH_LO` (R352); every value is a legal port. -/
  portDraw : Fin Config.ephCount
deriving DecidableEq, Repr

/-- What the host presents on the command port (R120), with the environment's inputs to that command. -/
structure Command where
  /-- The command word. -/
  cw : BitVec 32
  /-- The write data. -/
  wdata : Data
  /-- The first byte string of the stream port. -/
  s0 : List Byte
  /-- The second byte string of the stream port. -/
  s1 : List Byte
  /-- The environment's inputs to this command. -/
  env : Env
deriving DecidableEq, Repr

/-- What comes to PE from outside, one item a step. -/
inductive Stimulus where
  /-- A command on the command port (R120). -/
  | command (c : Command)
  /-- DESIGN CHOICE (log 9): a value of a frame field put to the frame decoder (R110); no command does this. -/
  | wire (f : WireField) (v : BitVec 16)
  /-- The reset input, applied between commands (R500, log 14). -/
  | reset
deriving DecidableEq, Repr

/-- One result of the command port, the `(rdata, status)` pair of R454. -/
structure Result where
  /-- The result value (R120). -/
  rdata : Data
  /-- The status (R470). -/
  status : Status
deriving DecidableEq, Repr

/-- The state of PE. The fields from `buf` to `dhcpEn` are the architectural state of R20; the fields after them are the
model's own: the ports, the inputs, the observation and the parameters (log 1, 2, 5, 14). -/
structure State where
  /-- The Raw Packet Buffer (R70): the bytes written since reset, addresses strictly rising. -/
  buf : List Host.Cell
  /-- The running sum of the Checksum Accumulator (R21). -/
  sum : BitVec 32
  /-- Whether the next byte accumulated is the low byte of its word (R22). -/
  phase : Bool
  /-- `frame_len` (R23). -/
  frameLen : BitVec 16
  /-- The gated classification (R24). -/
  cls : BitVec 14
  /-- `cls_fresh` (R25). -/
  clsFresh : Bool
  /-- The session state (R30, R117). -/
  state : BitVec 4
  /-- The pending request (R31, R118). -/
  req : BitVec 2
  /-- `local_port` (R32). -/
  localPort : BitVec 16
  /-- `peer_seq` (R33). -/
  peerSeq : BitVec 32
  /-- `peer_ack` (R34). -/
  peerAck : BitVec 32
  /-- `consumed_len` (R35). -/
  consumedLen : BitVec 32
  /-- `last_sport` (R36). -/
  lastSport : BitVec 16
  /-- `last_dport` (R37). -/
  lastDport : BitVec 16
  /-- `local_mac` (R40). -/
  localMac : Mac
  /-- `local_ip` (R41). -/
  localIp : Ip4
  /-- `subnet_mask` (R42). -/
  subnetMask : Ip4
  /-- `gateway` (R43). -/
  gateway : Ip4
  /-- `dhcp_en` (R44). -/
  dhcpEn : Bool
  /-- The `rdata` output of the last command (R26, R120). -/
  rdata : Data
  /-- The `status` output of the last command (R26, R470). -/
  status : Status
  /-- The `wdata` input of the command on the port (R120). -/
  wdata : Data
  /-- The `s0` input of the command on the port (R120). -/
  s0 : List Byte
  /-- The `s1` input of the command on the port (R120). -/
  s1 : List Byte
  /-- The environment's inputs to the command on the port (R49). -/
  env : Env
  /-- What will be presented to PE, in order (R18, R49). -/
  pending : List Stimulus
  /-- The results returned so far, in order (R454). -/
  results : List Result
  /-- The frames transmitted so far, in order (R431, R454). -/
  txLog : List (List Byte)
  /-- The configuration record of R9; no step writes it. -/
  params : Config.Params
  /-- How many resets have gone before: it picks the free values of this reset (U1, U2). -/
  resetCount : Nat
deriving DecidableEq, Repr

/-- The environment that offers nothing. -/
def Env.quiet : Env where
  rxFrame := none
  rxOvf := false
  txOk := false
  portDraw := ⟨0, by decide⟩

/-- The registers at the n-th reset (R50, R51, R52, R500), with nothing presented and nothing observed. -/
def State.atReset (n : Nat) (params : Config.Params) : State where
  buf := []
  sum := 0
  phase := false
  frameLen := 0
  cls := 0
  clsFresh := false
  state := 0
  req := 0
  localPort := 0
  peerSeq := 0
  peerAck := 0
  consumedLen := 0
  lastSport := 0
  lastDport := 0
  localMac := (Config.cfgReset n).mac
  localIp := (Config.cfgReset n).ip
  subnetMask := (Config.cfgReset n).mask
  gateway := (Config.cfgReset n).gateway
  dhcpEn := (Config.cfgReset n).dhcp
  rdata := 0
  status := .ok
  wdata := 0
  s0 := []
  s1 := []
  env := .quiet
  pending := []
  results := []
  txLog := []
  params := params
  resetCount := n

/-- The machine right after its first reset. -/
def State.reset : State := State.atReset 0 Config.params

end Sys2Proof.Machine
end

