-- ==== Sys2Proof/Machine/Ops.lean ====
section
/-! DEFINITION. The named operations: the buffer as memory, big-endian numbers, the one way a command ends well and the
one way it faults, the clearing of the classification, the ports, and reset. -/

namespace Sys2Proof.Machine

/-! ### The Raw Packet Buffer as a list of cells (R70, log 4) -/

/-- The canonical form of memory: addresses strictly rising. An unlisted address has no value in the list, so no entry
can equal what an unlisted address reads as. -/
abbrev Memory.wf (m : List Host.Cell) : Prop := m.Pairwise (fun x y => x.1 < y.1)

/-- Every listed address exists (R70). -/
abbrev Memory.inRange (m : List Host.Cell) : Prop := ∀ c ∈ m, c.1 < Config.bufCap

/-- The byte written last at an address, none where nothing has written it. -/
def Memory.lookup : List Host.Cell → Nat → Option Byte
  | [], _ => none
  | (k, b) :: rest, a => if k = a then some b else Memory.lookup rest a

/-- Write one byte, keeping the addresses rising. -/
def Memory.insert : List Host.Cell → Nat → Byte → List Host.Cell
  | [], a, b => [(a, b)]
  | (k, c) :: rest, a, b =>
    if a < k then (a, b) :: (k, c) :: rest
    else if a = k then (a, b) :: rest
    else (k, c) :: Memory.insert rest a b

/-- Write a byte string from an address upwards. -/
def Memory.insertAll : List Host.Cell → Nat → List Byte → List Host.Cell
  | m, _, [] => m
  | m, a, b :: bs => Memory.insertAll (Memory.insert m a b) (a + 1) bs

/-- `buf[a]`. A byte never written since reset is a free value, the same at every read (R73, U1, log 4). -/
def State.byteAt (s : State) (a : Nat) : Byte :=
  (Memory.lookup s.buf a).getD (Config.unwrittenByte s.resetCount a)

/-- `buf[a..a+n)`, lowest index first (R13). -/
def State.bytesAt (s : State) (a n : Nat) : List Byte := (List.range n).map (fun k => s.byteAt (a + k))

/-- Store a byte string at `buf[a..)`. -/
def State.storeBytes (a : Nat) (bs : List Byte) (s : State) : State :=
  { s with buf := Memory.insertAll s.buf a bs }

/-- The frame length as a count (R23). -/
def State.flen (s : State) : Nat := s.frameLen.toNat

/-- `frame_len <- n`. -/
def State.setFlen (n : Nat) (s : State) : State := { s with frameLen := BitVec.ofNat 16 n }

/-! ### Big-endian numbers (R14, R74) -/

/-- The unsigned big-endian value of a byte string. -/
def beValue (bs : List Byte) : Nat := bs.foldl (fun v b => v * 256 + b.toNat) 0

/-- The `n` bytes of a value, most significant first. -/
def beBytes : Nat → Nat → List Byte
  | 0, _ => []
  | n + 1, v => BitVec.ofNat 8 (v / 256 ^ n) :: beBytes n v

/-- `MemRead(a, n)` (R14). -/
def State.memRead (s : State) (a n : Nat) : Nat := beValue (s.bytesAt a n)

/-- `MemWrite(a, n, v)` (R14). -/
def State.memWrite (a n v : Nat) (s : State) : State := s.storeBytes a (beBytes n v)

/-! ### How a command ends (R470 to R474) -/

/-- The command ends with status `OK` and the result `v`. -/
def State.done (v : Data) (s : State) : State := { s with rdata := v, status := .ok }

/-- `raise st`: the command ends with a fault, `rdata` 0 and no effect (R15, R471, R472). PE has no trap entry and no trap
return (R474, R475): this is all that a fault does. -/
def State.raise (st : Status) (s : State) : State := { s with rdata := 0, status := st }

/-- A one-bit result: 1 for true (R16). -/
def bit (b : Bool) : Data := if b then 1 else 0

/-- Every command that changes the buffer or `frame_len` forgets the classification (R25). -/
def State.clearCls (s : State) : State := { s with cls := 0, clsFresh := false }

/-! ### The ports and reset -/

/-- A command is on the command port (R120): its data and its environment are on PE's inputs. -/
def State.present (c : Command) (s : State) : State :=
  { s with wdata := c.wdata, s0 := c.s0, s1 := c.s1, env := c.env }

/-- The result of the command just executed is observed (R454). -/
def State.observe (s : State) : State := { s with results := s.results ++ [⟨s.rdata, s.status⟩] }

/-- The reset input (R500): every register at its reset value, the next reset's unspecified values; nothing is
transmitted (R501). The stream of stimuli, the observation and the parameters are not PE's registers and stay. -/
def State.applyReset (s : State) : State :=
  { State.atReset (s.resetCount + 1) s.params with
    pending := s.pending, results := s.results, txLog := s.txLog }

/-- The first `n` bytes of a stream operand; a byte the host did not supply is a free value (log 11). -/
def streamBytes (l : List Byte) (n : Nat) : List Byte :=
  (List.range n).map (fun k => (l[k]?).getD (Config.missingByte k))

/-- The host presents a table word with zero write data, zero stream bytes and a quiet environment. -/
def stimulusOfWord : Encoded → Stimulus
  | .wire f v => .wire f v
  | .command cw =>
    .command
      { cw := cw, wdata := 0, s0 := List.replicate (cwHi cw) 0, s1 := List.replicate (cwLo cw) 0, env := Env.quiet }

end Sys2Proof.Machine
end

