-- ==== Sys2Proof/Machine/Flags.lean ====
section
/-! DEFINITION. The flag-like quantities of PE (R47): the one's-complement accumulator with its byte phase (R150 to
R161) and the classification vector (R24). -/

namespace Sys2Proof.Machine

/-- The Checksum Accumulator: the pair `sum`, `phase` (R21, R22). -/
structure Acc where
  /-- The running sum. -/
  sum : BitVec 32
  /-- Whether the next byte is a low byte. -/
  phase : Bool
deriving DecidableEq, Repr

/-- The accumulator right after `CK_RESET` (R152). -/
def Acc.zero : Acc := ⟨0, false⟩

/-- `ck_byte(b)` (R151): the high byte of a word at phase 0, its low byte at phase 1; the sum wraps (R157). -/
def Acc.byte (c : Acc) (b : Byte) : Acc :=
  if c.phase then ⟨c.sum + BitVec.ofNat 32 b.toNat, false⟩
  else ⟨c.sum + BitVec.ofNat 32 (256 * b.toNat), true⟩

/-- `ck_bytes(r)` (R151): the bytes in index order. -/
def Acc.bytes (c : Acc) (bs : List Byte) : Acc := bs.foldl Acc.byte c

/-- The two bytes of a 16-bit word, high byte first (R154). -/
def Acc.word (c : Acc) (w : BitVec 16) : Acc := c.bytes (beBytes 2 w.toNat)

/-- One pass of the fold: the high half is added to the low half, if there is one (R155). -/
def foldPass (s : BitVec 32) : BitVec 32 :=
  if s.toNat / 65536 = 0 then s else BitVec.ofNat 32 (s.toNat % 65536 + s.toNat / 65536)

/-- The fold of R155; two passes always suffice (R156). -/
def foldSum (s : BitVec 32) : BitVec 32 := foldPass (foldPass s)

/-- `CK_FINAL` (R155): `sum` keeps the folded value, `phase` stays. -/
def Acc.fold (c : Acc) : Acc := ⟨foldSum c.sum, c.phase⟩

/-- The result of `CK_FINAL` (R155): the complement of the folded sum's low 16 bits. -/
def Acc.checksum (c : Acc) : BitVec 16 := ~~~ (BitVec.ofNat 16 (foldSum c.sum).toNat)

/-- The accumulator of a state. -/
def State.acc (s : State) : Acc := ⟨s.sum, s.phase⟩

/-- Put an accumulator into `sum` and `phase`. -/
def State.withAcc (c : Acc) (s : State) : State := { s with sum := c.sum, phase := c.phase }

/-- The number whose bit k is the k-th entry of a list of bits. -/
def bitsValue : List Bool → Nat
  | [] => 0
  | b :: bs => b.toNat + 2 * bitsValue bs

/-- The 14-bit classification, bit 0 first (R24). -/
def clsVector (bs : List Bool) : BitVec 14 := BitVec.ofNat 14 (bitsValue bs)

end Sys2Proof.Machine
end

