-- ==== Sys2Proof/Machine/Operands.lean ====
section
/-! DEFINITION. The operands of PE: where each header field lies (R101 to R108, R181), how it is read and written (R182,
R183), and the derived quantities (R111, R190, R191). -/

namespace Sys2Proof.Machine

/-- The base a field's offset counts from (R17, R82). -/
inductive Base where
  /-- `ETH` = 0. -/
  | eth
  /-- `ARPB` = `IPB` = 14. -/
  | l3
  /-- `L4` = 14 + 4 * IP_IHL. -/
  | l4
  /-- `PL` = L4 + 4 * TCP_DOFF. -/
  | pl
deriving DecidableEq, Repr

/-- The part of memory a field is (R81). -/
inductive Shape where
  /-- `w` whole bytes, big-endian. -/
  | bytes (w : Nat)
  /-- Bits [7:4] of one byte. -/
  | hi
  /-- Bits [3:0] of one byte. -/
  | lo
deriving DecidableEq, Repr

/-- Where a field lies: a row of the tables of R101 to R108. -/
structure FieldDesc where
  /-- The base. -/
  base : Base
  /-- The byte offset from the base. -/
  off : Nat
  /-- The part of memory. -/
  shape : Shape
deriving DecidableEq, Repr

/-- The layout of every field (R101 to R106, R108). -/
def fieldDesc : Field → FieldDesc
  | .ethDst => ⟨.eth, 0, .bytes 6⟩
  | .ethSrc => ⟨.eth, 6, .bytes 6⟩
  | .ethType => ⟨.eth, 12, .bytes 2⟩
  | .arpHtype => ⟨.l3, 0, .bytes 2⟩
  | .arpPtype => ⟨.l3, 2, .bytes 2⟩
  | .arpHlen => ⟨.l3, 4, .bytes 1⟩
  | .arpPlen => ⟨.l3, 5, .bytes 1⟩
  | .arpOper => ⟨.l3, 6, .bytes 2⟩
  | .arpSha => ⟨.l3, 8, .bytes 6⟩
  | .arpSpa => ⟨.l3, 14, .bytes 4⟩
  | .arpTha => ⟨.l3, 18, .bytes 6⟩
  | .arpTpa => ⟨.l3, 24, .bytes 4⟩
  | .ipVer => ⟨.l3, 0, .hi⟩
  | .ipIhl => ⟨.l3, 0, .lo⟩
  | .ipTos => ⟨.l3, 1, .bytes 1⟩
  | .ipLen => ⟨.l3, 2, .bytes 2⟩
  | .ipId => ⟨.l3, 4, .bytes 2⟩
  | .ipFlagsfrag => ⟨.l3, 6, .bytes 2⟩
  | .ipTtl => ⟨.l3, 8, .bytes 1⟩
  | .ipProto => ⟨.l3, 9, .bytes 1⟩
  | .ipCsum => ⟨.l3, 10, .bytes 2⟩
  | .ipSrc => ⟨.l3, 12, .bytes 4⟩
  | .ipDst => ⟨.l3, 16, .bytes 4⟩
  | .icmpType => ⟨.l4, 0, .bytes 1⟩
  | .icmpCode => ⟨.l4, 1, .bytes 1⟩
  | .icmpCsum => ⟨.l4, 2, .bytes 2⟩
  | .icmpId => ⟨.l4, 4, .bytes 2⟩
  | .icmpSeq => ⟨.l4, 6, .bytes 2⟩
  | .udpSport => ⟨.l4, 0, .bytes 2⟩
  | .udpDport => ⟨.l4, 2, .bytes 2⟩
  | .udpLen => ⟨.l4, 4, .bytes 2⟩
  | .udpCsum => ⟨.l4, 6, .bytes 2⟩
  | .tcpSport => ⟨.l4, 0, .bytes 2⟩
  | .tcpDport => ⟨.l4, 2, .bytes 2⟩
  | .tcpSeq => ⟨.l4, 4, .bytes 4⟩
  | .tcpAck => ⟨.l4, 8, .bytes 4⟩
  | .tcpDoff => ⟨.l4, 12, .hi⟩
  | .tcpFlags => ⟨.l4, 13, .bytes 1⟩
  | .tcpOffsflags => ⟨.l4, 12, .bytes 2⟩
  | .tcpWin => ⟨.l4, 14, .bytes 2⟩
  | .tcpCsum => ⟨.l4, 16, .bytes 2⟩
  | .tcpUrg => ⟨.l4, 18, .bytes 2⟩
  | .mqttCtrl => ⟨.pl, 0, .bytes 1⟩
  | .mqttType => ⟨.pl, 0, .hi⟩
  | .mqttFlags => ⟨.pl, 0, .lo⟩
  | .mqttRl => ⟨.pl, 1, .bytes 1⟩

/-- How many bytes a field's access touches (R182). -/
def Shape.bytesTouched : Shape → Nat
  | .bytes w => w
  | .hi => 1
  | .lo => 1

/-- How many bits a field has. -/
def Shape.bits : Shape → Nat
  | .bytes w => 8 * w
  | .hi => 4
  | .lo => 4

/-- `buf[a][7:4]`. -/
def State.hiNibble (s : State) (a : Nat) : Nat := (s.byteAt a).toNat / 16

/-- `buf[a][3:0]`. -/
def State.loNibble (s : State) (a : Nat) : Nat := (s.byteAt a).toNat % 16

/-- `L4`, from the buffer as it now is (R181, R190). -/
def State.l4 (s : State) : Nat := Config.ethHdr + 4 * s.loNibble 14

/-- `PL`, from the buffer as it now is (R181, R191). -/
def State.pl (s : State) : Nat := s.l4 + 4 * s.hiNibble (s.l4 + 12)

/-- The bytes that locate `L4` are in frame (R181). -/
def State.l4InFrame (s : State) : Bool := decide (15 ≤ s.flen)

/-- The bytes that locate `PL` are in frame (R181). -/
def State.plInFrame (s : State) : Bool := s.l4InFrame && decide (s.l4 + 13 ≤ s.flen)

/-- The address of a base (R17, R181). -/
def State.baseAddr (s : State) : Base → Nat
  | .eth => 0
  | .l3 => Config.ethHdr
  | .l4 => s.l4
  | .pl => s.pl

/-- Whether the bytes needed to resolve a base are in frame (R181). -/
def State.baseInFrame (s : State) : Base → Bool
  | .eth => true
  | .l3 => true
  | .l4 => s.l4InFrame
  | .pl => s.plInFrame

/-- The address of a field in the buffer as it now is (R181). -/
def State.fieldAddr (f : Field) (s : State) : Nat := s.baseAddr (fieldDesc f).base + (fieldDesc f).off

/-- How many bytes a field's access touches. -/
def fieldBytes (f : Field) : Nat := (fieldDesc f).shape.bytesTouched

/-- How many bits a field has. -/
def fieldBits (f : Field) : Nat := (fieldDesc f).shape.bits

/-- The frame-bound check of a field's access: its base resolves, and the field itself is in frame (R76, R181, R182). -/
def State.fieldInFrame (f : Field) (s : State) : Bool :=
  s.baseInFrame (fieldDesc f).base && decide (s.fieldAddr f + fieldBytes f ≤ s.flen)

/-- The value a field has in the buffer, without a bound check (R182). -/
def State.fieldValue (f : Field) (s : State) : Nat :=
  match (fieldDesc f).shape with
  | .bytes w => s.memRead (s.fieldAddr f) w
  | .hi => s.hiNibble (s.fieldAddr f)
  | .lo => s.loNibble (s.fieldAddr f)

/-- Read a field, none when it is not in frame (R76, R182). -/
def State.readField (f : Field) (s : State) : Option Nat :=
  if s.fieldInFrame f then some (s.fieldValue f) else none

/-- Write a field, without a bound check: the base is resolved before the write, and a nibble write keeps the other
nibble (R81, R183). -/
def State.storeField (f : Field) (v : Nat) (s : State) : State :=
  match (fieldDesc f).shape with
  | .bytes w => s.memWrite (s.fieldAddr f) w v
  | .hi => s.storeBytes (s.fieldAddr f) [BitVec.ofNat 8 (v * 16 + s.loNibble (s.fieldAddr f))]
  | .lo => s.storeBytes (s.fieldAddr f) [BitVec.ofNat 8 (s.hiNibble (s.fieldAddr f) * 16 + v % 16)]

/-- Exchange two fields: both are read, and both located, before either is written (R13). -/
def State.swapFields (f g : Field) (s : State) : State :=
  (s.memWrite (s.fieldAddr f) (fieldBytes f) (s.fieldValue g)).memWrite (s.fieldAddr g) (fieldBytes g) (s.fieldValue f)

/-- A region `buf[a..a+n)`, none when it is not in frame (R76). -/
def State.readRegion (a n : Nat) (s : State) : Option (List Byte) :=
  if a + n ≤ s.flen then some (s.bytesAt a n) else none

/-- `TPL`, the TCP payload length, on integers: it may be negative (R111). None when a field it needs is not in frame. -/
def State.tcpPayloadLen (s : State) : Option Int :=
  match s.readField .ipLen, s.readField .ipIhl, s.readField .tcpDoff with
  | some t, some h, some d => some ((t : Int) - 4 * h - 4 * d)
  | _, _, _ => none

end Sys2Proof.Machine
end

