-- ==== Sys2Proof/Machine/Checksum.lean ====
section
/-! DEFINITION. CKS, the checksum unit (40_checksum.md): the composite computations R163 to R167 that classifiers and
builders perform, and the four commands R152 to R155. -/

namespace Sys2Proof.Machine

/-! ### Composite computations (R163 to R167)

Each answers what it leaves in the accumulator and, unless it fails, the 16-bit result. When an internal `CK_ACC` is out
of frame, the internal commands before it keep their effect and it has none (R302). -/

/-- What a composite checksum leaves and answers. -/
structure CkOut where
  /-- The accumulator afterwards. -/
  acc : Acc
  /-- The result of `CK_FINAL`, none when the composite failed. -/
  result : Option (BitVec 16)
deriving DecidableEq, Repr

/-- The internal `CK_FINAL` that ends a composite. -/
def ckFinish (c : Acc) : CkOut := ⟨c.fold, some c.checksum⟩

/-- An internal `CK_ACC a, n` that, in frame, is the last accumulation before `CK_FINAL`. -/
def ckLast (s : State) (a n : Nat) (c : Acc) : CkOut :=
  match s.readRegion a n with
  | some bs => ckFinish (c.bytes bs)
  | none => ⟨c, none⟩

/-- The pseudo-header and the transport segment (R166): IP_SRC and IP_DST, the zero byte and protocol number, the
length, then the `n` bytes from `L4`. -/
def ckTransport (s : State) (proto : BitVec 16) (n : Nat) : CkOut :=
  match s.readRegion 26 8 with
  | some bs => ckLast s s.l4 n (((Acc.zero.bytes bs).word proto).word (BitVec.ofNat 16 n))
  | none => ⟨.zero, none⟩

/-- `ck_ip()` (R163), started with the accumulator the state holds. -/
def ckIp (s : State) : CkOut :=
  match s.readField .ipIhl with
  | some h => ckLast s 14 (4 * h) .zero
  | none => ⟨s.acc, none⟩

/-- The length of what the IP datagram carries, `IP_LEN - 4*IP_IHL`, none when it cannot be read or is negative. -/
def State.ipPayloadLen (s : State) : Option Nat :=
  match s.readField .ipLen, s.readField .ipIhl with
  | some t, some h => if 4 * h ≤ t then some (t - 4 * h) else none
  | _, _ => none

/-- `ck_icmp()` (R164), the verifying form over the whole ICMP message. -/
def ckIcmp (s : State) : CkOut :=
  match s.ipPayloadLen with
  | some n => if n < 8 then ⟨s.acc, none⟩ else ckLast s s.l4 n .zero
  | none => ⟨s.acc, none⟩

/-- The generating form of R164, over an ICMP message of `n` bytes: type and code, then everything from the identifier,
so that the checksum field is left out (C3). -/
def ckIcmpGen (s : State) (n : Nat) : CkOut :=
  match s.readRegion s.l4 2 with
  | some bs => ckLast s (s.l4 + 4) (n - 4) (Acc.zero.bytes bs)
  | none => ⟨.zero, none⟩

/-- `ck_udp()` (R165). -/
def ckUdp (s : State) : CkOut :=
  match s.readField .udpLen with
  | some u => if u < 8 then ⟨s.acc, none⟩ else ckTransport s 0x0011 u
  | none => ⟨s.acc, none⟩

/-- `ck_tcp()` (R167). -/
def ckTcp (s : State) : CkOut :=
  match s.ipPayloadLen with
  | some n => if n < 20 then ⟨s.acc, none⟩ else ckTransport s 0x0006 n
  | none => ⟨s.acc, none⟩

/-! ### Commands -/

/-- `CK_RESET` (R152). -/
def execCkReset (s : State) : Host.Outcome State Fault Refusal := .next ((s.withAcc .zero).done 0)

/-- `CK_ACC off, len` (R153). -/
def execCkAcc (off len : Nat) (s : State) : Host.Outcome State Fault Refusal :=
  .next (match s.readRegion off len with
    | some bs => (s.withAcc (s.acc.bytes bs)).done 0
    | none => s.raise .errBounds)

/-- `CK_ACC_W16 imm` (R154). -/
def execCkAccW16 (imm : BitVec 16) (s : State) : Host.Outcome State Fault Refusal :=
  .next ((s.withAcc (s.acc.word imm)).done 0)

/-- `CK_FINAL` (R155). -/
def execCkFinal (s : State) : Host.Outcome State Fault Refusal :=
  .next ((s.withAcc s.acc.fold).done (s.acc.checksum.setWidth 48))

end Sys2Proof.Machine
end

