-- ==== Sys2Proof/Machine/HostPort.lean ====
section
/-! DEFINITION. The host, transport, buffer and configuration commands (45_host.md, R430 to R449). -/

namespace Sys2Proof.Machine

/-- A value for a 32-bit configuration register, none when `wdata[47:32]` is not zero (R443, R445, R447, R345). -/
def State.wdata32 (s : State) : Option Ip4 :=
  if 2 ^ 32 ≤ s.wdata.toNat then none else some (BitVec.ofNat 32 s.wdata.toNat)

/-- `RX_POLL len` (R430, R79). -/
def execRxPoll (len : Nat) (s : State) : Host.Outcome State Fault Refusal :=
  .next (match s.env.rxFrame with
    | none => s.done (BitVec.ofNat 48 (65536 * s.env.rxOvf.toNat))
    | some f =>
      let n := min f.length (min len Config.bufCap)
      (((s.storeBytes 0 (f.take n)).setFlen n).clearCls).done (BitVec.ofNat 48 (65536 * s.env.rxOvf.toNat + n)))

/-- `TX` (R431): the frame is emitted whatever the transport then answers; PE's registers and buffer stay. -/
def execTx (s : State) : Host.Outcome State Fault Refusal :=
  .next (if s.flen = 0 then s.raise .errArg
    else { s with txLog := s.txLog ++ [s.bytesAt 0 s.flen] }.done (bit s.env.txOk))

/-- `BUF_RD idx` (R432): bounded by the capacity only. -/
def execBufRd (idx : Nat) (s : State) : Host.Outcome State Fault Refusal :=
  .next (if Config.bufCap ≤ idx then s.raise .errBounds else s.done ((s.byteAt idx).setWidth 48))

/-- `BUF_WR idx, byte` (R433): bounded by the capacity only; `frame_len` stays. -/
def execBufWr (idx : Nat) (byte : Byte) (s : State) : Host.Outcome State Fault Refusal :=
  .next (if Config.bufCap ≤ idx then s.raise .errBounds else ((s.storeBytes idx [byte]).clearCls).done 0)

/-- `BUF_SETLEN len` (R434). -/
def execBufSetlen (len : Nat) (s : State) : Host.Outcome State Fault Refusal :=
  .next (if Config.bufCap < len then s.raise .errArg else ((s.setFlen len).clearCls).done 0)

/-- `BUF_GETLEN` (R435). -/
def execBufGetlen (s : State) : Host.Outcome State Fault Refusal := .next (s.done (s.frameLen.setWidth 48))

/-- `CFG_SET_MAC mac` (R441): every 48-bit value is legal. -/
def execCfgSetMac (s : State) : Host.Outcome State Fault Refusal := .next ({ s with localMac := s.wdata }.done 0)

/-- `CFG_SET_IP ip` (R443). -/
def execCfgSetIp (s : State) : Host.Outcome State Fault Refusal :=
  .next (match s.wdata32 with
    | some v => { s with localIp := v }.done 0
    | none => s.raise .errArg)

/-- `CFG_SET_SN mask` (R445). -/
def execCfgSetSn (s : State) : Host.Outcome State Fault Refusal :=
  .next (match s.wdata32 with
    | some v => { s with subnetMask := v }.done 0
    | none => s.raise .errArg)

/-- `CFG_SET_GW ip` (R447). -/
def execCfgSetGw (s : State) : Host.Outcome State Fault Refusal :=
  .next (match s.wdata32 with
    | some v => { s with gateway := v }.done 0
    | none => s.raise .errArg)

/-- `CFG_SET_DHCP k` (R449). -/
def execCfgSetDhcp (k : Bool) (s : State) : Host.Outcome State Fault Refusal := .next ({ s with dhcpEn := k }.done 0)

/-- `CFG_GET_MAC` (R440). -/
def execCfgGetMac (s : State) : Host.Outcome State Fault Refusal := .next (s.done s.localMac)

/-- `CFG_GET_IP` (R442). -/
def execCfgGetIp (s : State) : Host.Outcome State Fault Refusal := .next (s.done (s.localIp.setWidth 48))

/-- `CFG_GET_SN` (R444). -/
def execCfgGetSn (s : State) : Host.Outcome State Fault Refusal := .next (s.done (s.subnetMask.setWidth 48))

/-- `CFG_GET_GW` (R446). -/
def execCfgGetGw (s : State) : Host.Outcome State Fault Refusal := .next (s.done (s.gateway.setWidth 48))

/-- `CFG_GET_DHCP` (R448). -/
def execCfgGetDhcp (s : State) : Host.Outcome State Fault Refusal := .next (s.done (bit s.dhcpEn))

end Sys2Proof.Machine
end

