-- ==== Sys2Proof/Machine/Builders.lean ====
section
/-! DEFINITION. The frame builders (43_builders.md, R340 to R360). -/

namespace Sys2Proof.Machine

/-! ### What every builder does (R340 to R343) -/

/-- The end of a builder (R342): the built frame with the classification forgotten and its length as the result; or, when
a check failed, a fault with no effect. A composite checksum that fails part-way is such a check (R76, log 12). -/
def endBuild (s : State) (built : Option State) : State :=
  match built with
  | some t => t.clearCls.done (t.frameLen.setWidth 48)
  | none => s.raise .errBounds

/-- Write a computed checksum into its field, keeping what the computation leaves in the accumulator (R341); none when the
computation failed. -/
def storeChecksum (f : Field) (o : CkOut) (s : State) : Option State :=
  match o.result with
  | some c => some ((s.withAcc o.acc).storeField f c.toNat)
  | none => none

/-- `IP_CSUM <- 0 ; IP_CSUM <- ck_ip()` (R163, R341). -/
def sealIp (s : State) : Option State :=
  storeChecksum .ipCsum (ckIp (s.storeField .ipCsum 0)) (s.storeField .ipCsum 0)

/-! ### The stateless responders -/

/-- `BLD_ARP_REPLY` (R344): every right-hand side is read before any write. -/
def execBldArpReply (s : State) : Host.Outcome State Fault Refusal :=
  .next (if s.flen < 42 then s.raise .errBounds
    else
      let mac := s.localMac.toNat
      endBuild s (some
        ((((((((s.storeField .ethDst (s.fieldValue .ethSrc)).storeField .ethSrc mac).storeField .arpOper 2).storeField
          .arpTha (s.fieldValue .arpSha)).storeField .arpTpa (s.fieldValue .arpSpa)).storeField .arpSha mac).storeField
          .arpSpa (s.fieldValue .arpTpa)).setFlen 42)))

/-- The 42 bytes of an ARP request for an address (R345), in the order of R101 and R102. -/
def arpRequestFrame (mac : Mac) (ip target : Ip4) : List Byte :=
  beBytes 6 0xFFFFFFFFFFFF ++ beBytes 6 mac.toNat ++ beBytes 2 0x0806 ++
  beBytes 2 1 ++ beBytes 2 0x0800 ++ beBytes 1 6 ++ beBytes 1 4 ++ beBytes 2 1 ++
  beBytes 6 mac.toNat ++ beBytes 4 ip.toNat ++ beBytes 6 0 ++ beBytes 4 target.toNat

/-- `BLD_ARP_REQ ip` (R345). -/
def execBldArpReq (s : State) : Host.Outcome State Fault Refusal :=
  .next (match s.wdata32 with
    | some ip => endBuild s (some ((s.storeBytes 0 (arpRequestFrame s.localMac s.localIp ip)).setFlen 42))
    | none => s.raise .errArg)

/-- `BLD_ICMP_REPLY` (R346): the statements in the order of the rule, every field located in the buffer as it then is
(R181, log 13). -/
def icmpReply (n : Nat) (s : State) : Option State :=
  let swapped := (s.swapFields .ethDst .ethSrc).swapFields .ipSrc .ipDst
  let typed := (swapped.storeField .icmpType 0).setFlen (s.l4 + n)
  (sealIp typed).bind (fun t => storeChecksum .icmpCsum (ckIcmpGen t n) t)

/-- `BLD_ICMP_REPLY` (R346). -/
def execBldIcmpReply (s : State) : Host.Outcome State Fault Refusal :=
  .next (if s.flen < 34 then s.raise .errBounds
    else match s.ipPayloadLen with
      | some n => if n < 8 ∨ s.flen < s.l4 + n then s.raise .errBounds else endBuild s (icmpReply n s)
      | none => s.raise .errBounds)

/-- The built reply of R347: the statements in the order of the rule, every field located in the buffer as it then is,
`h` and `L4` as first read (log 13). -/
def udpReply (payload : List Byte) (s : State) : Option State :=
  let p := payload.length
  let l4 := s.l4
  let swapped := ((s.swapFields .ethDst .ethSrc).swapFields .ipSrc .ipDst).swapFields .udpSport .udpDport
  let sized := ((swapped.setFlen (l4 + 8 + p)).storeField .udpLen (8 + p)).storeField .ipLen (l4 - 14 + 8 + p)
  (sealIp (sized.storeBytes (l4 + 8) payload)).bind (fun t =>
    storeChecksum .udpCsum (ckUdp (t.storeField .udpCsum 0)) (t.storeField .udpCsum 0))

/-- `BLD_UDP_REPLY payload` (R347). -/
def execBldUdpReply (s0len : Nat) (s : State) : Host.Outcome State Fault Refusal :=
  .next (if s.flen < 34 ∨ s.flen < s.l4 + 8 then s.raise .errBounds
    else if Config.bufCap < s.l4 + 8 + s0len then s.raise .errBounds
    else endBuild s (udpReply (streamBytes s.s0 s0len) s))

/-! ### The TCP segment emitter (R350, R351) -/

/-- The numbers a TCP segment is emitted with. -/
structure Segment where
  /-- The flag byte. -/
  flags : Nat
  /-- The source port. -/
  sport : BitVec 16
  /-- The destination port. -/
  dport : BitVec 16
  /-- The sequence number. -/
  seq : BitVec 32
  /-- The acknowledgment number. -/
  ack : BitVec 32
  /-- The options: a whole number of 32-bit words. -/
  opts : List Byte
  /-- The payload. -/
  payload : List Byte
deriving DecidableEq, Repr

/-- The TCP length: header, options and payload (R350). -/
def Segment.tcpLen (g : Segment) : Nat := 20 + g.opts.length + g.payload.length

/-- The frame of a segment with both checksum fields 0 (R350), in the order of R101, R103 and R106. -/
def segmentFrame (p : Config.Params) (mac : Mac) (ip : Ip4) (g : Segment) : List Byte :=
  beBytes 6 p.peerMac.toNat ++ beBytes 6 mac.toNat ++ beBytes 2 0x0800 ++
  ([0x45] ++ beBytes 1 p.ipTos.toNat ++ beBytes 2 (20 + g.tcpLen) ++ beBytes 2 p.ipId.toNat ++
   beBytes 2 p.ipFlagsFrag.toNat ++ beBytes 1 p.ipTtl.toNat ++ beBytes 1 6 ++ beBytes 2 0 ++
   beBytes 4 ip.toNat ++ beBytes 4 p.peerIp.toNat) ++
  (beBytes 2 g.sport.toNat ++ beBytes 2 g.dport.toNat ++ beBytes 4 g.seq.toNat ++ beBytes 4 g.ack.toNat ++
   beBytes 2 (4096 * (5 + g.opts.length / 4) + g.flags) ++ beBytes 2 p.tcpWindow.toNat ++ beBytes 2 0 ++ beBytes 2 0) ++
  g.opts ++ g.payload

/-- `emit_tcp` (R350): the frame is written, then the IP and the TCP checksum. -/
def emitTcp (g : Segment) (s : State) : State :=
  if Config.bufCap < 14 + 20 + g.tcpLen then s.raise .errBounds
  else
    let laid := (s.storeBytes 0 (segmentFrame s.params s.localMac s.localIp g)).setFlen (34 + g.tcpLen)
    endBuild s ((storeChecksum .ipCsum (ckIp laid) laid).bind (fun t => storeChecksum .tcpCsum (ckTcp t) t))

/-- The segment that answers the latched one (R351): ports swapped, `seq` what the peer acknowledged, `ack` what has been
consumed, modulo 2^32. -/
def replySegment (flags : Nat) (payload : List Byte) (s : State) : Segment where
  flags := flags
  sport := s.lastDport
  dport := s.lastSport
  seq := s.peerAck
  ack := s.peerSeq + s.consumedLen
  opts := []
  payload := payload

/-- The Maximum Segment Size option of the SYN (R109). -/
def mssOption (p : Config.Params) : List Byte := [0x02, 0x04] ++ beBytes 2 p.mssValue.toNat

/-- The port drawn for a SYN (R352). -/
def State.drawnPort (s : State) : BitVec 16 := BitVec.ofNat 16 (Config.ephLo + s.env.portDraw.val)

/-- `BLD_TCP_SYN` (R352). -/
def execBldTcpSyn (s : State) : Host.Outcome State Fault Refusal :=
  .next (emitTcp
    { flags := 0x02, sport := s.drawnPort, dport := s.params.peerPort, seq := 0, ack := 0,
      opts := mssOption s.params, payload := [] }
    { s with localPort := s.drawnPort })

/-- `BLD_TCP_ACK` (R353). -/
def execBldTcpAck (s : State) : Host.Outcome State Fault Refusal := .next (emitTcp (replySegment 0x10 [] s) s)

/-! ### The MQTT builders (R354 to R360) -/

/-- An MQTT string: a 2-byte length, then the bytes (R108). -/
def mqttString (bs : List Byte) : List Byte := beBytes 2 bs.length ++ bs

/-- `mqtt_segment` (R354) of a control byte and a variable part: one remaining-length byte, at most 127, else `ERR_ARG`. -/
def mqttSegment (control : Byte) (body : List Byte) (s : State) : State :=
  if 127 < body.length then s.raise .errArg
  else emitTcp (replySegment 0x18 ([control, BitVec.ofNat 8 body.length] ++ body) s) s

/-- The variable part of CONNECT (R355). -/
def connectBody (p : Config.Params) : List Byte :=
  mqttString Config.mqttName ++ [Config.mqttVersion, p.connectFlags] ++ beBytes 2 p.keepAlive.toNat ++
  mqttString p.clientId

/-- `BLD_MQTT_CONNECT` (R355). -/
def execBldMqttConnect (s : State) : Host.Outcome State Fault Refusal :=
  .next (mqttSegment 0x10 (connectBody s.params) s)

/-- `BLD_MQTT_PUBLISH topic, message` (R356). -/
def execBldMqttPublish (s0len s1len : Nat) (s : State) : Host.Outcome State Fault Refusal :=
  .next (mqttSegment 0x30 (mqttString (streamBytes s.s0 s0len) ++ streamBytes s.s1 s1len) s)

/-- `BLD_MQTT_SUBSCRIBE topic` (R357). -/
def execBldMqttSubscribe (s0len : Nat) (s : State) : Host.Outcome State Fault Refusal :=
  .next (mqttSegment 0x82
    (beBytes 2 s.params.msgId.toNat ++ mqttString (streamBytes s.s0 s0len) ++ [s.params.subQos]) s)

/-- `BLD_MQTT_UNSUBSCRIBE topic` (R358). -/
def execBldMqttUnsubscribe (s0len : Nat) (s : State) : Host.Outcome State Fault Refusal :=
  .next (mqttSegment 0xA2 (beBytes 2 s.params.msgId.toNat ++ mqttString (streamBytes s.s0 s0len)) s)

/-- `BLD_MQTT_DISCONNECT` (R359): the segment carries no FIN. -/
def execBldMqttDisconnect (s : State) : Host.Outcome State Fault Refusal := .next (mqttSegment 0xE0 [] s)

/-- `BLD_MQTT_PINGREQ` (R360). -/
def execBldMqttPingreq (s : State) : Host.Outcome State Fault Refusal := .next (mqttSegment 0xC0 [] s)

end Sys2Proof.Machine
end

