-- ==== Sys2Proof/Machine/Classifier.lean ====
section
/-! DEFINITION. CLS, the packet classifier (42_classifier.md): the fourteen predicates with their documented side effects,
the event latch, `CLASSIFY` and `CLS_GET`. -/

namespace Sys2Proof.Machine

/-- A predicate's effect on the state and its answer. -/
structure Answer where
  /-- The state afterwards. -/
  state : State
  /-- Whether the predicate is true. -/
  holds : Bool
deriving DecidableEq, Repr

/-- A frame field is in frame and has the value `v`; a field out of frame makes a predicate false (R301). -/
def State.fieldIs (f : Field) (v : Nat) (s : State) : Bool := s.readField f == some v

/-! ### The event latch (R320) -/

/-- The five registers of the event latch (R38). -/
structure Latch where
  /-- For `peer_seq`. -/
  seq : BitVec 32
  /-- For `peer_ack`. -/
  ack : BitVec 32
  /-- For `consumed_len`. -/
  consumed : BitVec 32
  /-- For `last_sport`. -/
  sport : BitVec 16
  /-- For `last_dport`. -/
  dport : BitVec 16
deriving DecidableEq, Repr

/-- What a SYN or a FIN adds to the payload length: one sequence number (R320, R321). -/
def flagLength (flags : Nat) : Nat := if flags = 0x12 ∨ flags = 0x11 then 1 else 0

/-- What `latch()` would record of the frame, none where it returns false (R320): a TCP field out of frame, or a negative
payload length. -/
def State.latchOf (s : State) : Option Latch :=
  if s.l4InFrame && decide (s.l4 + 14 ≤ s.flen) then
    match s.tcpPayloadLen with
    | some t =>
      if t < 0 then none
      else some
        { seq := BitVec.ofNat 32 (s.fieldValue .tcpSeq)
          ack := BitVec.ofNat 32 (s.fieldValue .tcpAck)
          consumed := BitVec.ofNat 32 (t.toNat + flagLength (s.fieldValue .tcpFlags))
          sport := BitVec.ofNat 16 (s.fieldValue .tcpSport)
          dport := BitVec.ofNat 16 (s.fieldValue .tcpDport) }
    | none => none
  else none

/-- Write the event latch: all five registers together (R38). -/
def State.setLatch (l : Latch) (s : State) : State :=
  { s with peerSeq := l.seq, peerAck := l.ack, consumedLen := l.consumed, lastSport := l.sport, lastDport := l.dport }

/-- A TCP-event predicate: its own comparison, then the latch, which must succeed too (R310 to R317). -/
def latchIf (test : Bool) (s : State) : Answer :=
  if test then
    match s.latchOf with
    | some l => ⟨s.setLatch l, true⟩
    | none => ⟨s, false⟩
  else ⟨s, false⟩

/-! ### The predicates -/

/-- `IS_IP`'s conjuncts (R304): IPv4, and the header checksum verifies. -/
def isIp (s : State) : Answer :=
  if s.fieldIs .ethType 0x0800 then ⟨s.withAcc (ckIp s).acc, (ckIp s).result == some 0⟩ else ⟨s, false⟩

/-- `IS_IP_UNICAST`'s conjunct (R305). -/
def isIpUnicast (s : State) : Answer := ⟨s, s.fieldIs .ipDst s.localIp.toNat⟩

/-- `IS_ARP_REQ`'s conjuncts (R306). -/
def isArpReq (s : State) : Answer :=
  ⟨s, s.fieldIs .ethType 0x0806 && (s.fieldIs .arpTpa s.localIp.toNat && s.fieldIs .arpOper 1)⟩

/-- `IS_TCP`'s conjunct (R307). -/
def isTcp (s : State) : Answer := ⟨s, s.fieldIs .ipProto 6⟩

/-- `IS_PING_REQ`'s conjuncts (R308). -/
def isPingReq (s : State) : Answer := ⟨s, s.fieldIs .ipProto 1 && s.fieldIs .icmpType 8⟩

/-- `IS_UDP_VALID`'s conjuncts (R309): UDP, and the UDP checksum verifies. -/
def isUdpValid (s : State) : Answer :=
  if s.fieldIs .ipProto 17 then ⟨s.withAcc (ckUdp s).acc, (ckUdp s).result == some 0⟩ else ⟨s, false⟩

/-- A flag predicate (R310 to R313): the whole flag byte is compared. -/
def flagsAre (v : Nat) (s : State) : Answer := latchIf (s.fieldIs .tcpFlags v) s

/-- An MQTT reply predicate (R314 to R317): at least one payload byte, and the first one is compared whole. -/
def mqttReplyIs (v : Nat) (s : State) : Answer :=
  latchIf
    (match s.tcpPayloadLen with
     | some t => decide (1 ≤ t) && s.fieldIs .mqttCtrl v
     | none => false) s

/-- A predicate command's result is its answer (R16). -/
def Answer.reply (a : Answer) : State := a.state.done (bit a.holds)

/-- `IS_IP` (R304). -/
def execIsIp (s : State) : Host.Outcome State Fault Refusal := .next (isIp s).reply

/-- `IS_IP_UNICAST` (R305). -/
def execIsIpUnicast (s : State) : Host.Outcome State Fault Refusal := .next (isIpUnicast s).reply

/-- `IS_ARP_REQ` (R306). -/
def execIsArpReq (s : State) : Host.Outcome State Fault Refusal := .next (isArpReq s).reply

/-- `IS_PING_REQ` (R308). -/
def execIsPingReq (s : State) : Host.Outcome State Fault Refusal := .next (isPingReq s).reply

/-- `IS_UDP_VALID` (R309). -/
def execIsUdpValid (s : State) : Host.Outcome State Fault Refusal := .next (isUdpValid s).reply

/-- `IS_TCP` (R307). -/
def execIsTcp (s : State) : Host.Outcome State Fault Refusal := .next (isTcp s).reply

/-- `IS_SYNACK` (R310). -/
def execIsSynack (s : State) : Host.Outcome State Fault Refusal := .next (flagsAre 0x12 s).reply

/-- `IS_ACK` (R311). -/
def execIsAck (s : State) : Host.Outcome State Fault Refusal := .next (flagsAre 0x10 s).reply

/-- `IS_PSHACK` (R312). -/
def execIsPshack (s : State) : Host.Outcome State Fault Refusal := .next (flagsAre 0x18 s).reply

/-- `IS_FINACK` (R313). -/
def execIsFinack (s : State) : Host.Outcome State Fault Refusal := .next (flagsAre 0x11 s).reply

/-- `IS_CONNACK` (R314). -/
def execIsConnack (s : State) : Host.Outcome State Fault Refusal := .next (mqttReplyIs 0x20 s).reply

/-- `IS_PUBSUBACK` (R315). -/
def execIsPubsuback (s : State) : Host.Outcome State Fault Refusal := .next (mqttReplyIs 0x90 s).reply

/-- `IS_UNSUBACK` (R316). -/
def execIsUnsuback (s : State) : Host.Outcome State Fault Refusal := .next (mqttReplyIs 0xB0 s).reply

/-- `IS_PINGRESP` (R317). -/
def execIsPingresp (s : State) : Host.Outcome State Fault Refusal := .next (mqttReplyIs 0xD0 s).reply

/-! ### The combined classification -/

/-- `g and IS_x`, short-circuiting: with the gate shut the predicate is not asked (R302, R318). -/
def gated (g : Bool) (p : State → Answer) (s : State) : Answer := if g then p s else ⟨s, false⟩

/-- Ask one gate's predicates in order, collecting their answers. -/
def askAll (g : Bool) : List (State → Answer) → State → State × List Bool
  | [], s => (s, [])
  | p :: ps, s =>
    ((askAll g ps (gated g p s).state).1, (gated g p s).holds :: (askAll g ps (gated g p s).state).2)

/-- The eight TCP-event predicates in the order of bits 6 to 13 (R318). -/
def eventPredicates : List (State → Answer) :=
  [flagsAre 0x12, flagsAre 0x10, flagsAre 0x18, flagsAre 0x11,
   mqttReplyIs 0x20, mqttReplyIs 0x90, mqttReplyIs 0xB0, mqttReplyIs 0xD0]

/-- The fourteen gated answers in bit order, and what asking for them leaves (R318). -/
def classifyBits (s : State) : State × List Bool :=
  let arp := isArpReq s
  let ip := isIp arp.state
  let uni := gated ip.holds isIpUnicast ip.state
  let ping := gated uni.holds isPingReq uni.state
  let udp := gated uni.holds isUdpValid ping.state
  let tcp := gated uni.holds isTcp udp.state
  let events := askAll tcp.holds eventPredicates tcp.state
  (events.1, [arp.holds, ip.holds, uni.holds, ping.holds, udp.holds, tcp.holds] ++ events.2)

/-- `CLASSIFY` (R318). -/
def execClassify (s : State) : Host.Outcome State Fault Refusal :=
  .next
    (let r := classifyBits s
     { r.1 with cls := clsVector r.2, clsFresh := true }.done ((clsVector r.2).setWidth 48))

/-- `CLS_GET` (R319): bit 14 is `cls_fresh`. -/
def execClsGet (s : State) : Host.Outcome State Fault Refusal :=
  .next (s.done (BitVec.ofNat 48 (s.clsFresh.toNat * 16384 + s.cls.toNat)))

end Sys2Proof.Machine
end

