-- ==== Sys2Proof/Machine/Parser.lean ====
section
/-! DEFINITION. PRS, the frame parser (41_parser.md): the `GET` and `PUT` of every field, and the derived quantities. -/

namespace Sys2Proof.Machine

/-- `GET` of a field (R182, R184): its value, or `ERR_BOUNDS` when its base or the field is not in frame. -/
def getField (f : Field) (s : State) : State :=
  match s.readField f with
  | some v => s.done (BitVec.ofNat 48 v)
  | none => s.raise .errBounds

/-- `PUT` of a field (R183, R184): `ERR_ARG` for a value too wide, then `ERR_BOUNDS`, then the write, which forgets the
classification. -/
def putField (f : Field) (s : State) : State :=
  if 2 ^ fieldBits f ≤ s.wdata.toNat then s.raise .errArg
  else if s.fieldInFrame f then ((s.storeField f s.wdata.toNat).clearCls).done 0
  else s.raise .errBounds

/-! ### Derived quantities (R190 to R194) -/

/-- `GET_LOC_L4` (R190). -/
def execGetLocL4 (s : State) : Host.Outcome State Fault Refusal :=
  .next (if s.l4InFrame then s.done (BitVec.ofNat 48 s.l4) else s.raise .errBounds)

/-- `GET_LOC_PL` (R191): the result may lie at or beyond `frame_len`. -/
def execGetLocPl (s : State) : Host.Outcome State Fault Refusal :=
  .next (if s.plInFrame then s.done (BitVec.ofNat 48 s.pl) else s.raise .errBounds)

/-- `GET_LEN_TPL` (R192): a negative length is `ERR_ARG`, after the reads (R473). -/
def execGetLenTpl (s : State) : Host.Outcome State Fault Refusal :=
  .next (match s.tcpPayloadLen with
    | some t => if t < 0 then s.raise .errArg else s.done (BitVec.ofNat 48 t.toNat)
    | none => s.raise .errBounds)

/-- `GET_LEN_UDPPL` (R193). -/
def execGetLenUdppl (s : State) : Host.Outcome State Fault Refusal :=
  .next (match s.readField .udpLen with
    | some u => if u < 8 then s.raise .errArg else s.done (BitVec.ofNat 48 (u - 8))
    | none => s.raise .errBounds)

/-- `GET_LEN_ICMPDATA` (R194). -/
def execGetLenIcmpdata (s : State) : Host.Outcome State Fault Refusal :=
  .next (match s.readField .ipLen, s.readField .ipIhl with
    | some t, some h => if t < 4 * h + 8 then s.raise .errArg else s.done (BitVec.ofNat 48 (t - 4 * h - 8))
    | _, _ => s.raise .errBounds)

/-! ### `GET_<field>` (R200 to R245) -/

/-- `GET_ETH_DST` (R200). -/
def execGetEthDst (s : State) : Host.Outcome State Fault Refusal := .next (getField .ethDst s)

/-- `GET_ETH_SRC` (R201). -/
def execGetEthSrc (s : State) : Host.Outcome State Fault Refusal := .next (getField .ethSrc s)

/-- `GET_ETH_TYPE` (R202). -/
def execGetEthType (s : State) : Host.Outcome State Fault Refusal := .next (getField .ethType s)

/-- `GET_ARP_HTYPE` (R203). -/
def execGetArpHtype (s : State) : Host.Outcome State Fault Refusal := .next (getField .arpHtype s)

/-- `GET_ARP_PTYPE` (R204). -/
def execGetArpPtype (s : State) : Host.Outcome State Fault Refusal := .next (getField .arpPtype s)

/-- `GET_ARP_HLEN` (R205). -/
def execGetArpHlen (s : State) : Host.Outcome State Fault Refusal := .next (getField .arpHlen s)

/-- `GET_ARP_PLEN` (R206). -/
def execGetArpPlen (s : State) : Host.Outcome State Fault Refusal := .next (getField .arpPlen s)

/-- `GET_ARP_OPER` (R207). -/
def execGetArpOper (s : State) : Host.Outcome State Fault Refusal := .next (getField .arpOper s)

/-- `GET_ARP_SHA` (R208). -/
def execGetArpSha (s : State) : Host.Outcome State Fault Refusal := .next (getField .arpSha s)

/-- `GET_ARP_SPA` (R209). -/
def execGetArpSpa (s : State) : Host.Outcome State Fault Refusal := .next (getField .arpSpa s)

/-- `GET_ARP_THA` (R210). -/
def execGetArpTha (s : State) : Host.Outcome State Fault Refusal := .next (getField .arpTha s)

/-- `GET_ARP_TPA` (R211). -/
def execGetArpTpa (s : State) : Host.Outcome State Fault Refusal := .next (getField .arpTpa s)

/-- `GET_IP_VER` (R212). -/
def execGetIpVer (s : State) : Host.Outcome State Fault Refusal := .next (getField .ipVer s)

/-- `GET_IP_IHL` (R213). -/
def execGetIpIhl (s : State) : Host.Outcome State Fault Refusal := .next (getField .ipIhl s)

/-- `GET_IP_TOS` (R214). -/
def execGetIpTos (s : State) : Host.Outcome State Fault Refusal := .next (getField .ipTos s)

/-- `GET_IP_LEN` (R215). -/
def execGetIpLen (s : State) : Host.Outcome State Fault Refusal := .next (getField .ipLen s)

/-- `GET_IP_ID` (R216). -/
def execGetIpId (s : State) : Host.Outcome State Fault Refusal := .next (getField .ipId s)

/-- `GET_IP_FLAGSFRAG` (R217). -/
def execGetIpFlagsfrag (s : State) : Host.Outcome State Fault Refusal := .next (getField .ipFlagsfrag s)

/-- `GET_IP_TTL` (R218). -/
def execGetIpTtl (s : State) : Host.Outcome State Fault Refusal := .next (getField .ipTtl s)

/-- `GET_IP_PROTO` (R219). -/
def execGetIpProto (s : State) : Host.Outcome State Fault Refusal := .next (getField .ipProto s)

/-- `GET_IP_CSUM` (R220). -/
def execGetIpCsum (s : State) : Host.Outcome State Fault Refusal := .next (getField .ipCsum s)

/-- `GET_IP_SRC` (R221). -/
def execGetIpSrc (s : State) : Host.Outcome State Fault Refusal := .next (getField .ipSrc s)

/-- `GET_IP_DST` (R222). -/
def execGetIpDst (s : State) : Host.Outcome State Fault Refusal := .next (getField .ipDst s)

/-- `GET_ICMP_TYPE` (R223). -/
def execGetIcmpType (s : State) : Host.Outcome State Fault Refusal := .next (getField .icmpType s)

/-- `GET_ICMP_CODE` (R224). -/
def execGetIcmpCode (s : State) : Host.Outcome State Fault Refusal := .next (getField .icmpCode s)

/-- `GET_ICMP_CSUM` (R225). -/
def execGetIcmpCsum (s : State) : Host.Outcome State Fault Refusal := .next (getField .icmpCsum s)

/-- `GET_ICMP_ID` (R226). -/
def execGetIcmpId (s : State) : Host.Outcome State Fault Refusal := .next (getField .icmpId s)

/-- `GET_ICMP_SEQ` (R227). -/
def execGetIcmpSeq (s : State) : Host.Outcome State Fault Refusal := .next (getField .icmpSeq s)

/-- `GET_UDP_SPORT` (R228). -/
def execGetUdpSport (s : State) : Host.Outcome State Fault Refusal := .next (getField .udpSport s)

/-- `GET_UDP_DPORT` (R229). -/
def execGetUdpDport (s : State) : Host.Outcome State Fault Refusal := .next (getField .udpDport s)

/-- `GET_UDP_LEN` (R230). -/
def execGetUdpLen (s : State) : Host.Outcome State Fault Refusal := .next (getField .udpLen s)

/-- `GET_UDP_CSUM` (R231). -/
def execGetUdpCsum (s : State) : Host.Outcome State Fault Refusal := .next (getField .udpCsum s)

/-- `GET_TCP_SPORT` (R232). -/
def execGetTcpSport (s : State) : Host.Outcome State Fault Refusal := .next (getField .tcpSport s)

/-- `GET_TCP_DPORT` (R233). -/
def execGetTcpDport (s : State) : Host.Outcome State Fault Refusal := .next (getField .tcpDport s)

/-- `GET_TCP_SEQ` (R234). -/
def execGetTcpSeq (s : State) : Host.Outcome State Fault Refusal := .next (getField .tcpSeq s)

/-- `GET_TCP_ACK` (R235). -/
def execGetTcpAck (s : State) : Host.Outcome State Fault Refusal := .next (getField .tcpAck s)

/-- `GET_TCP_DOFF` (R236). -/
def execGetTcpDoff (s : State) : Host.Outcome State Fault Refusal := .next (getField .tcpDoff s)

/-- `GET_TCP_FLAGS` (R237). -/
def execGetTcpFlags (s : State) : Host.Outcome State Fault Refusal := .next (getField .tcpFlags s)

/-- `GET_TCP_OFFSFLAGS` (R238). -/
def execGetTcpOffsflags (s : State) : Host.Outcome State Fault Refusal := .next (getField .tcpOffsflags s)

/-- `GET_TCP_WIN` (R239). -/
def execGetTcpWin (s : State) : Host.Outcome State Fault Refusal := .next (getField .tcpWin s)

/-- `GET_TCP_CSUM` (R240). -/
def execGetTcpCsum (s : State) : Host.Outcome State Fault Refusal := .next (getField .tcpCsum s)

/-- `GET_TCP_URG` (R241). -/
def execGetTcpUrg (s : State) : Host.Outcome State Fault Refusal := .next (getField .tcpUrg s)

/-- `GET_MQTT_CTRL` (R242). -/
def execGetMqttCtrl (s : State) : Host.Outcome State Fault Refusal := .next (getField .mqttCtrl s)

/-- `GET_MQTT_TYPE` (R243). -/
def execGetMqttType (s : State) : Host.Outcome State Fault Refusal := .next (getField .mqttType s)

/-- `GET_MQTT_FLAGS` (R244). -/
def execGetMqttFlags (s : State) : Host.Outcome State Fault Refusal := .next (getField .mqttFlags s)

/-- `GET_MQTT_RL` (R245). -/
def execGetMqttRl (s : State) : Host.Outcome State Fault Refusal := .next (getField .mqttRl s)

/-! ### `PUT_<field>` (R250 to R295) -/

/-- `PUT_ETH_DST` (R250). -/
def execPutEthDst (s : State) : Host.Outcome State Fault Refusal := .next (putField .ethDst s)

/-- `PUT_ETH_SRC` (R251). -/
def execPutEthSrc (s : State) : Host.Outcome State Fault Refusal := .next (putField .ethSrc s)

/-- `PUT_ETH_TYPE` (R252). -/
def execPutEthType (s : State) : Host.Outcome State Fault Refusal := .next (putField .ethType s)

/-- `PUT_ARP_HTYPE` (R253). -/
def execPutArpHtype (s : State) : Host.Outcome State Fault Refusal := .next (putField .arpHtype s)

/-- `PUT_ARP_PTYPE` (R254). -/
def execPutArpPtype (s : State) : Host.Outcome State Fault Refusal := .next (putField .arpPtype s)

/-- `PUT_ARP_HLEN` (R255). -/
def execPutArpHlen (s : State) : Host.Outcome State Fault Refusal := .next (putField .arpHlen s)

/-- `PUT_ARP_PLEN` (R256). -/
def execPutArpPlen (s : State) : Host.Outcome State Fault Refusal := .next (putField .arpPlen s)

/-- `PUT_ARP_OPER` (R257). -/
def execPutArpOper (s : State) : Host.Outcome State Fault Refusal := .next (putField .arpOper s)

/-- `PUT_ARP_SHA` (R258). -/
def execPutArpSha (s : State) : Host.Outcome State Fault Refusal := .next (putField .arpSha s)

/-- `PUT_ARP_SPA` (R259). -/
def execPutArpSpa (s : State) : Host.Outcome State Fault Refusal := .next (putField .arpSpa s)

/-- `PUT_ARP_THA` (R260). -/
def execPutArpTha (s : State) : Host.Outcome State Fault Refusal := .next (putField .arpTha s)

/-- `PUT_ARP_TPA` (R261). -/
def execPutArpTpa (s : State) : Host.Outcome State Fault Refusal := .next (putField .arpTpa s)

/-- `PUT_IP_VER` (R262). -/
def execPutIpVer (s : State) : Host.Outcome State Fault Refusal := .next (putField .ipVer s)

/-- `PUT_IP_IHL` (R263). -/
def execPutIpIhl (s : State) : Host.Outcome State Fault Refusal := .next (putField .ipIhl s)

/-- `PUT_IP_TOS` (R264). -/
def execPutIpTos (s : State) : Host.Outcome State Fault Refusal := .next (putField .ipTos s)

/-- `PUT_IP_LEN` (R265). -/
def execPutIpLen (s : State) : Host.Outcome State Fault Refusal := .next (putField .ipLen s)

/-- `PUT_IP_ID` (R266). -/
def execPutIpId (s : State) : Host.Outcome State Fault Refusal := .next (putField .ipId s)

/-- `PUT_IP_FLAGSFRAG` (R267). -/
def execPutIpFlagsfrag (s : State) : Host.Outcome State Fault Refusal := .next (putField .ipFlagsfrag s)

/-- `PUT_IP_TTL` (R268). -/
def execPutIpTtl (s : State) : Host.Outcome State Fault Refusal := .next (putField .ipTtl s)

/-- `PUT_IP_PROTO` (R269). -/
def execPutIpProto (s : State) : Host.Outcome State Fault Refusal := .next (putField .ipProto s)

/-- `PUT_IP_CSUM` (R270). -/
def execPutIpCsum (s : State) : Host.Outcome State Fault Refusal := .next (putField .ipCsum s)

/-- `PUT_IP_SRC` (R271). -/
def execPutIpSrc (s : State) : Host.Outcome State Fault Refusal := .next (putField .ipSrc s)

/-- `PUT_IP_DST` (R272). -/
def execPutIpDst (s : State) : Host.Outcome State Fault Refusal := .next (putField .ipDst s)

/-- `PUT_ICMP_TYPE` (R273). -/
def execPutIcmpType (s : State) : Host.Outcome State Fault Refusal := .next (putField .icmpType s)

/-- `PUT_ICMP_CODE` (R274). -/
def execPutIcmpCode (s : State) : Host.Outcome State Fault Refusal := .next (putField .icmpCode s)

/-- `PUT_ICMP_CSUM` (R275). -/
def execPutIcmpCsum (s : State) : Host.Outcome State Fault Refusal := .next (putField .icmpCsum s)

/-- `PUT_ICMP_ID` (R276). -/
def execPutIcmpId (s : State) : Host.Outcome State Fault Refusal := .next (putField .icmpId s)

/-- `PUT_ICMP_SEQ` (R277). -/
def execPutIcmpSeq (s : State) : Host.Outcome State Fault Refusal := .next (putField .icmpSeq s)

/-- `PUT_UDP_SPORT` (R278). -/
def execPutUdpSport (s : State) : Host.Outcome State Fault Refusal := .next (putField .udpSport s)

/-- `PUT_UDP_DPORT` (R279). -/
def execPutUdpDport (s : State) : Host.Outcome State Fault Refusal := .next (putField .udpDport s)

/-- `PUT_UDP_LEN` (R280). -/
def execPutUdpLen (s : State) : Host.Outcome State Fault Refusal := .next (putField .udpLen s)

/-- `PUT_UDP_CSUM` (R281). -/
def execPutUdpCsum (s : State) : Host.Outcome State Fault Refusal := .next (putField .udpCsum s)

/-- `PUT_TCP_SPORT` (R282). -/
def execPutTcpSport (s : State) : Host.Outcome State Fault Refusal := .next (putField .tcpSport s)

/-- `PUT_TCP_DPORT` (R283). -/
def execPutTcpDport (s : State) : Host.Outcome State Fault Refusal := .next (putField .tcpDport s)

/-- `PUT_TCP_SEQ` (R284). -/
def execPutTcpSeq (s : State) : Host.Outcome State Fault Refusal := .next (putField .tcpSeq s)

/-- `PUT_TCP_ACK` (R285). -/
def execPutTcpAck (s : State) : Host.Outcome State Fault Refusal := .next (putField .tcpAck s)

/-- `PUT_TCP_DOFF` (R286). -/
def execPutTcpDoff (s : State) : Host.Outcome State Fault Refusal := .next (putField .tcpDoff s)

/-- `PUT_TCP_FLAGS` (R287). -/
def execPutTcpFlags (s : State) : Host.Outcome State Fault Refusal := .next (putField .tcpFlags s)

/-- `PUT_TCP_OFFSFLAGS` (R288). -/
def execPutTcpOffsflags (s : State) : Host.Outcome State Fault Refusal := .next (putField .tcpOffsflags s)

/-- `PUT_TCP_WIN` (R289). -/
def execPutTcpWin (s : State) : Host.Outcome State Fault Refusal := .next (putField .tcpWin s)

/-- `PUT_TCP_CSUM` (R290). -/
def execPutTcpCsum (s : State) : Host.Outcome State Fault Refusal := .next (putField .tcpCsum s)

/-- `PUT_TCP_URG` (R291). -/
def execPutTcpUrg (s : State) : Host.Outcome State Fault Refusal := .next (putField .tcpUrg s)

/-- `PUT_MQTT_CTRL` (R292). -/
def execPutMqttCtrl (s : State) : Host.Outcome State Fault Refusal := .next (putField .mqttCtrl s)

/-- `PUT_MQTT_TYPE` (R293). -/
def execPutMqttType (s : State) : Host.Outcome State Fault Refusal := .next (putField .mqttType s)

/-- `PUT_MQTT_FLAGS` (R294). -/
def execPutMqttFlags (s : State) : Host.Outcome State Fault Refusal := .next (putField .mqttFlags s)

/-- `PUT_MQTT_RL` (R295). -/
def execPutMqttRl (s : State) : Host.Outcome State Fault Refusal := .next (putField .mqttRl s)

end Sys2Proof.Machine
end

