-- ==== Sys2Proof/Machine/Session.lean ====
section
/-! DEFINITION. SSM, the TCP/MQTT session state machine (44_session.md): the codes of R117 and R118, the transition
function and the session commands. -/

namespace Sys2Proof.Machine

/-! ### Codes (R117, R118) -/

/-- Session state Closed. -/
abbrev ssClosed : BitVec 4 := 0
/-- Session state SynSent. -/
abbrev ssSynSent : BitVec 4 := 1
/-- Session state SynAckReceived. -/
abbrev ssSynAckReceived : BitVec 4 := 2
/-- Session state Established. -/
abbrev ssEstablished : BitVec 4 := 3
/-- Session state PublishingMqtt. -/
abbrev ssPublishingMqtt : BitVec 4 := 4
/-- Session state DisconnectRequested. -/
abbrev ssDisconnectRequested : BitVec 4 := 5
/-- Session state FinWait1. -/
abbrev ssFinWait1 : BitVec 4 := 6
/-- Session state FinWait2. -/
abbrev ssFinWait2 : BitVec 4 := 7
/-- Session state TimeWait. -/
abbrev ssTimeWait : BitVec 4 := 8

/-- Request None. -/
abbrev reqNone : BitVec 2 := 0
/-- Request Pub. -/
abbrev reqPub : BitVec 2 := 1
/-- Request Sub. -/
abbrev reqSub : BitVec 2 := 2
/-- Request Unsub. -/
abbrev reqUnsub : BitVec 2 := 3

/-- Select no builder. -/
abbrev selNone : Data := 0
/-- Select `BLD_TCP_SYN`. -/
abbrev selSyn : Data := 1
/-- Select `BLD_TCP_ACK`. -/
abbrev selAck : Data := 2
/-- Select `BLD_MQTT_CONNECT`. -/
abbrev selConnect : Data := 3
/-- Select `BLD_MQTT_PUBLISH`. -/
abbrev selPublish : Data := 4
/-- Select `BLD_MQTT_SUBSCRIBE`. -/
abbrev selSubscribe : Data := 5
/-- Select `BLD_MQTT_UNSUBSCRIBE`. -/
abbrev selUnsubscribe : Data := 6
/-- Select `BLD_MQTT_DISCONNECT`. -/
abbrev selDisconnect : Data := 7

/-! ### The transition function (R380, R386 to R394, R398) -/

/-- What one transition does: the new state, the new request and the builder selected. -/
structure Transition where
  /-- `state'`. -/
  state : BitVec 4
  /-- `req'`. -/
  req : BitVec 2
  /-- `sel`. -/
  sel : Data
deriving DecidableEq, Repr

/-- The builder a request selects in PublishingMqtt (R390). -/
def publishSelection (req : BitVec 2) : Data :=
  if req = reqPub then selPublish else if req = reqSub then selSubscribe else selUnsubscribe

/-- A frame trigger: the classification is fresh and the named bit is set (R383). -/
def frameTrigger (cls : BitVec 14) (fresh : Bool) (k : Nat) : Bool := fresh && cls.getLsbD k

/-- The case of a state, with a request pending and no violation (R386 to R394, R398). -/
def transition (state : BitVec 4) (req : BitVec 2) (cls : BitVec 14) (fresh tw : Bool) : Transition :=
  if state = ssClosed then ⟨ssSynSent, req, selSyn⟩
  else if state = ssSynSent then
    (if frameTrigger cls fresh 6 then ⟨ssEstablished, req, selAck⟩ else ⟨state, req, selNone⟩)
  else if state = ssSynAckReceived then ⟨ssEstablished, req, selAck⟩
  else if state = ssEstablished then ⟨ssPublishingMqtt, req, selConnect⟩
  else if state = ssPublishingMqtt then
    (if frameTrigger cls fresh 10 then ⟨ssDisconnectRequested, req, publishSelection req⟩ else ⟨state, req, selNone⟩)
  else if state = ssDisconnectRequested then
    (if frameTrigger cls fresh 7 then ⟨ssFinWait1, req, selDisconnect⟩ else ⟨state, req, selNone⟩)
  else if state = ssFinWait1 then
    (if frameTrigger cls fresh 9 then ⟨ssFinWait2, req, selNone⟩ else ⟨state, req, selNone⟩)
  else if state = ssFinWait2 then ⟨ssTimeWait, req, selAck⟩
  else (if tw then ⟨ssClosed, reqNone, selNone⟩ else ⟨state, req, selNone⟩)

/-- `step(state, req, cls, cls_fresh, tw)` (R380, R385) for a state that is no reserved code. -/
def sessionStep (state : BitVec 4) (req : BitVec 2) (cls : BitVec 14) (fresh tw : Bool) : Transition :=
  if Config.protocolViolation state cls fresh then ⟨ssClosed, req, selNone⟩
  else if req = reqNone then ⟨state, req, selNone⟩
  else transition state req cls fresh tw

/-! ### Commands -/

/-- `REQ kind` (R384): a request is taken only when none is pending. -/
def execReq (k : BitVec 2) (s : State) : Host.Outcome State Fault Refusal :=
  .next (if k = reqNone then s.raise .errArg
    else if s.req = reqNone then { s with req := k }.done 1
    else s.done 0)

/-- `STEP tw` (R385): `cls_fresh` is cleared always, except on the `ERR_STATE` of a reserved code (R395). -/
def execStep (tw : Bool) (s : State) : Host.Outcome State Fault Refusal :=
  .next (if 8 < s.state.toNat then s.raise .errState
    else
      let t := sessionStep s.state s.req s.cls s.clsFresh tw
      { s with state := t.state, req := t.req, clsFresh := false }.done t.sel)

/-- `SSM_GET` (R396): `state` in bits [3:0], `req` in bits [5:4]. -/
def execSsmGet (s : State) : Host.Outcome State Fault Refusal :=
  .next (s.done (BitVec.ofNat 48 (s.req.toNat * 16 + s.state.toNat)))

/-- `SSM_GET_PORT` (R397). -/
def execSsmGetPort (s : State) : Host.Outcome State Fault Refusal := .next (s.done (s.localPort.setWidth 48))

end Sys2Proof.Machine
end

