-- ==== Sys2Proof/Machine/Wire.lean ====
section
/-! DEFINITION. The wire discriminators of R110 (and CONNECT's control byte, R108): rows of the opcode table that are
values a frame field may hold, not commands. DESIGN CHOICE (log 9): what the frame decoder answers for a row is whether
that field of the frame in the buffer is in frame and holds that value; it changes nothing else. -/

namespace Sys2Proof.Machine

/-- Whether a frame field holds a discriminator, as a one-bit result. A field out of frame matches nothing (R113, R301). -/
def matchDiscriminator (f : Field) (v : Nat) (s : State) : State := s.done (bit (s.fieldIs f v))

/-- `WIRE_ETH_TYPE_0800`: IPv4 (R110). -/
def execWireEthType0800 (s : State) : Host.Outcome State Fault Refusal :=
  .next (matchDiscriminator .ethType 0x0800 s)

/-- `WIRE_ETH_TYPE_0806`: ARP (R110). -/
def execWireEthType0806 (s : State) : Host.Outcome State Fault Refusal :=
  .next (matchDiscriminator .ethType 0x0806 s)

/-- `WIRE_ARP_OPER_0001`: request (R110). -/
def execWireArpOper0001 (s : State) : Host.Outcome State Fault Refusal :=
  .next (matchDiscriminator .arpOper 0x0001 s)

/-- `WIRE_ARP_OPER_0002`: reply (R110). -/
def execWireArpOper0002 (s : State) : Host.Outcome State Fault Refusal :=
  .next (matchDiscriminator .arpOper 0x0002 s)

/-- `WIRE_IP_PROTO_01`: ICMP (R110). -/
def execWireIpProto01 (s : State) : Host.Outcome State Fault Refusal :=
  .next (matchDiscriminator .ipProto 0x01 s)

/-- `WIRE_IP_PROTO_06`: TCP (R110). -/
def execWireIpProto06 (s : State) : Host.Outcome State Fault Refusal :=
  .next (matchDiscriminator .ipProto 0x06 s)

/-- `WIRE_IP_PROTO_11`: UDP (R110). -/
def execWireIpProto11 (s : State) : Host.Outcome State Fault Refusal :=
  .next (matchDiscriminator .ipProto 0x11 s)

/-- `WIRE_ICMP_TYPE_08`: echo request (R110). -/
def execWireIcmpType08 (s : State) : Host.Outcome State Fault Refusal :=
  .next (matchDiscriminator .icmpType 0x08 s)

/-- `WIRE_ICMP_TYPE_00`: echo reply (R110). -/
def execWireIcmpType00 (s : State) : Host.Outcome State Fault Refusal :=
  .next (matchDiscriminator .icmpType 0x00 s)

/-- `WIRE_TCP_FLAGS_12`: SYN+ACK (R110). -/
def execWireTcpFlags12 (s : State) : Host.Outcome State Fault Refusal :=
  .next (matchDiscriminator .tcpFlags 0x12 s)

/-- `WIRE_TCP_FLAGS_10`: ACK alone (R110). -/
def execWireTcpFlags10 (s : State) : Host.Outcome State Fault Refusal :=
  .next (matchDiscriminator .tcpFlags 0x10 s)

/-- `WIRE_TCP_FLAGS_18`: PSH+ACK (R110). -/
def execWireTcpFlags18 (s : State) : Host.Outcome State Fault Refusal :=
  .next (matchDiscriminator .tcpFlags 0x18 s)

/-- `WIRE_TCP_FLAGS_11`: FIN+ACK (R110). -/
def execWireTcpFlags11 (s : State) : Host.Outcome State Fault Refusal :=
  .next (matchDiscriminator .tcpFlags 0x11 s)

/-- `WIRE_TCP_FLAGS_02`: SYN alone (written by BLD_TCP_SYN) (R110). -/
def execWireTcpFlags02 (s : State) : Host.Outcome State Fault Refusal :=
  .next (matchDiscriminator .tcpFlags 0x02 s)

/-- `WIRE_MQTT_CTRL_20`: CONNACK (R110). -/
def execWireMqttCtrl20 (s : State) : Host.Outcome State Fault Refusal :=
  .next (matchDiscriminator .mqttCtrl 0x20 s)

/-- `WIRE_MQTT_CTRL_90`: PUBACK/SUBACK (R110). -/
def execWireMqttCtrl90 (s : State) : Host.Outcome State Fault Refusal :=
  .next (matchDiscriminator .mqttCtrl 0x90 s)

/-- `WIRE_MQTT_CTRL_B0`: UNSUBACK (R110). -/
def execWireMqttCtrlB0 (s : State) : Host.Outcome State Fault Refusal :=
  .next (matchDiscriminator .mqttCtrl 0xB0 s)

/-- `WIRE_MQTT_CTRL_D0`: PINGRESP (R110). -/
def execWireMqttCtrlD0 (s : State) : Host.Outcome State Fault Refusal :=
  .next (matchDiscriminator .mqttCtrl 0xD0 s)

/-- `WIRE_MQTT_CTRL_10`: CONNECT (value from general knowledge, 93_implementation_defined.md G7) (R108). -/
def execWireMqttCtrl10 (s : State) : Host.Outcome State Fault Refusal :=
  .next (matchDiscriminator .mqttCtrl 0x10 s)

/-- `WIRE_MQTT_CTRL_30`: PUBLISH (R110). -/
def execWireMqttCtrl30 (s : State) : Host.Outcome State Fault Refusal :=
  .next (matchDiscriminator .mqttCtrl 0x30 s)

/-- `WIRE_MQTT_CTRL_82`: SUBSCRIBE (R110). -/
def execWireMqttCtrl82 (s : State) : Host.Outcome State Fault Refusal :=
  .next (matchDiscriminator .mqttCtrl 0x82 s)

/-- `WIRE_MQTT_CTRL_A2`: UNSUBSCRIBE (R110). -/
def execWireMqttCtrlA2 (s : State) : Host.Outcome State Fault Refusal :=
  .next (matchDiscriminator .mqttCtrl 0xA2 s)

/-- `WIRE_MQTT_CTRL_E0`: DISCONNECT (R110). -/
def execWireMqttCtrlE0 (s : State) : Host.Outcome State Fault Refusal :=
  .next (matchDiscriminator .mqttCtrl 0xE0 s)

/-- `WIRE_MQTT_CTRL_C0`: PINGREQ (R110). -/
def execWireMqttCtrlC0 (s : State) : Host.Outcome State Fault Refusal :=
  .next (matchDiscriminator .mqttCtrl 0xC0 s)

end Sys2Proof.Machine
end

