-- ==== Sys2Proof/Machine/Dispatch.lean ====
section
/-! DEFINITION. The meaning of every instruction: one arm per constructor. -/

namespace Sys2Proof.Machine

/-- What an instruction does. -/
def exec (i : Instr) (s : State) : Host.Outcome State Fault Refusal :=
  match i with
  | .rxPoll len => Sys2Proof.Machine.execRxPoll len s
  | .tx => Sys2Proof.Machine.execTx s
  | .bufRd idx => Sys2Proof.Machine.execBufRd idx s
  | .bufWr idx byte => Sys2Proof.Machine.execBufWr idx byte s
  | .bufSetlen len => Sys2Proof.Machine.execBufSetlen len s
  | .bufGetlen => Sys2Proof.Machine.execBufGetlen s
  | .cfgSetMac => Sys2Proof.Machine.execCfgSetMac s
  | .cfgSetIp => Sys2Proof.Machine.execCfgSetIp s
  | .cfgSetSn => Sys2Proof.Machine.execCfgSetSn s
  | .cfgSetGw => Sys2Proof.Machine.execCfgSetGw s
  | .cfgGetMac => Sys2Proof.Machine.execCfgGetMac s
  | .cfgGetIp => Sys2Proof.Machine.execCfgGetIp s
  | .cfgGetSn => Sys2Proof.Machine.execCfgGetSn s
  | .cfgGetGw => Sys2Proof.Machine.execCfgGetGw s
  | .cfgGetDhcp => Sys2Proof.Machine.execCfgGetDhcp s
  | .cfgSetDhcp k => Sys2Proof.Machine.execCfgSetDhcp k s
  | .ckReset => Sys2Proof.Machine.execCkReset s
  | .ckAcc off len => Sys2Proof.Machine.execCkAcc off len s
  | .ckAccW16 imm => Sys2Proof.Machine.execCkAccW16 imm s
  | .ckFinal => Sys2Proof.Machine.execCkFinal s
  | .getEthDst => Sys2Proof.Machine.execGetEthDst s
  | .getEthSrc => Sys2Proof.Machine.execGetEthSrc s
  | .getEthType => Sys2Proof.Machine.execGetEthType s
  | .getArpHtype => Sys2Proof.Machine.execGetArpHtype s
  | .getArpPtype => Sys2Proof.Machine.execGetArpPtype s
  | .getArpHlen => Sys2Proof.Machine.execGetArpHlen s
  | .getArpPlen => Sys2Proof.Machine.execGetArpPlen s
  | .getArpOper => Sys2Proof.Machine.execGetArpOper s
  | .getArpSha => Sys2Proof.Machine.execGetArpSha s
  | .getArpSpa => Sys2Proof.Machine.execGetArpSpa s
  | .getArpTha => Sys2Proof.Machine.execGetArpTha s
  | .getArpTpa => Sys2Proof.Machine.execGetArpTpa s
  | .getIpVer => Sys2Proof.Machine.execGetIpVer s
  | .getIpIhl => Sys2Proof.Machine.execGetIpIhl s
  | .getIpTos => Sys2Proof.Machine.execGetIpTos s
  | .getIpLen => Sys2Proof.Machine.execGetIpLen s
  | .getIpId => Sys2Proof.Machine.execGetIpId s
  | .getIpFlagsfrag => Sys2Proof.Machine.execGetIpFlagsfrag s
  | .getIpTtl => Sys2Proof.Machine.execGetIpTtl s
  | .getIpProto => Sys2Proof.Machine.execGetIpProto s
  | .getIpCsum => Sys2Proof.Machine.execGetIpCsum s
  | .getIpSrc => Sys2Proof.Machine.execGetIpSrc s
  | .getIpDst => Sys2Proof.Machine.execGetIpDst s
  | .getIcmpType => Sys2Proof.Machine.execGetIcmpType s
  | .getIcmpCode => Sys2Proof.Machine.execGetIcmpCode s
  | .getIcmpCsum => Sys2Proof.Machine.execGetIcmpCsum s
  | .getIcmpId => Sys2Proof.Machine.execGetIcmpId s
  | .getIcmpSeq => Sys2Proof.Machine.execGetIcmpSeq s
  | .getUdpSport => Sys2Proof.Machine.execGetUdpSport s
  | .getUdpDport => Sys2Proof.Machine.execGetUdpDport s
  | .getUdpLen => Sys2Proof.Machine.execGetUdpLen s
  | .getUdpCsum => Sys2Proof.Machine.execGetUdpCsum s
  | .getTcpSport => Sys2Proof.Machine.execGetTcpSport s
  | .getTcpDport => Sys2Proof.Machine.execGetTcpDport s
  | .getTcpSeq => Sys2Proof.Machine.execGetTcpSeq s
  | .getTcpAck => Sys2Proof.Machine.execGetTcpAck s
  | .getTcpDoff => Sys2Proof.Machine.execGetTcpDoff s
  | .getTcpFlags => Sys2Proof.Machine.execGetTcpFlags s
  | .getTcpOffsflags => Sys2Proof.Machine.execGetTcpOffsflags s
  | .getTcpWin => Sys2Proof.Machine.execGetTcpWin s
  | .getTcpCsum => Sys2Proof.Machine.execGetTcpCsum s
  | .getTcpUrg => Sys2Proof.Machine.execGetTcpUrg s
  | .getMqttCtrl => Sys2Proof.Machine.execGetMqttCtrl s
  | .getMqttType => Sys2Proof.Machine.execGetMqttType s
  | .getMqttFlags => Sys2Proof.Machine.execGetMqttFlags s
  | .getMqttRl => Sys2Proof.Machine.execGetMqttRl s
  | .putEthDst => Sys2Proof.Machine.execPutEthDst s
  | .putEthSrc => Sys2Proof.Machine.execPutEthSrc s
  | .putEthType => Sys2Proof.Machine.execPutEthType s
  | .putArpHtype => Sys2Proof.Machine.execPutArpHtype s
  | .putArpPtype => Sys2Proof.Machine.execPutArpPtype s
  | .putArpHlen => Sys2Proof.Machine.execPutArpHlen s
  | .putArpPlen => Sys2Proof.Machine.execPutArpPlen s
  | .putArpOper => Sys2Proof.Machine.execPutArpOper s
  | .putArpSha => Sys2Proof.Machine.execPutArpSha s
  | .putArpSpa => Sys2Proof.Machine.execPutArpSpa s
  | .putArpTha => Sys2Proof.Machine.execPutArpTha s
  | .putArpTpa => Sys2Proof.Machine.execPutArpTpa s
  | .putIpVer => Sys2Proof.Machine.execPutIpVer s
  | .putIpIhl => Sys2Proof.Machine.execPutIpIhl s
  | .putIpTos => Sys2Proof.Machine.execPutIpTos s
  | .putIpLen => Sys2Proof.Machine.execPutIpLen s
  | .putIpId => Sys2Proof.Machine.execPutIpId s
  | .putIpFlagsfrag => Sys2Proof.Machine.execPutIpFlagsfrag s
  | .putIpTtl => Sys2Proof.Machine.execPutIpTtl s
  | .putIpProto => Sys2Proof.Machine.execPutIpProto s
  | .putIpCsum => Sys2Proof.Machine.execPutIpCsum s
  | .putIpSrc => Sys2Proof.Machine.execPutIpSrc s
  | .putIpDst => Sys2Proof.Machine.execPutIpDst s
  | .putIcmpType => Sys2Proof.Machine.execPutIcmpType s
  | .putIcmpCode => Sys2Proof.Machine.execPutIcmpCode s
  | .putIcmpCsum => Sys2Proof.Machine.execPutIcmpCsum s
  | .putIcmpId => Sys2Proof.Machine.execPutIcmpId s
  | .putIcmpSeq => Sys2Proof.Machine.execPutIcmpSeq s
  | .putUdpSport => Sys2Proof.Machine.execPutUdpSport s
  | .putUdpDport => Sys2Proof.Machine.execPutUdpDport s
  | .putUdpLen => Sys2Proof.Machine.execPutUdpLen s
  | .putUdpCsum => Sys2Proof.Machine.execPutUdpCsum s
  | .putTcpSport => Sys2Proof.Machine.execPutTcpSport s
  | .putTcpDport => Sys2Proof.Machine.execPutTcpDport s
  | .putTcpSeq => Sys2Proof.Machine.execPutTcpSeq s
  | .putTcpAck => Sys2Proof.Machine.execPutTcpAck s
  | .putTcpDoff => Sys2Proof.Machine.execPutTcpDoff s
  | .putTcpFlags => Sys2Proof.Machine.execPutTcpFlags s
  | .putTcpOffsflags => Sys2Proof.Machine.execPutTcpOffsflags s
  | .putTcpWin => Sys2Proof.Machine.execPutTcpWin s
  | .putTcpCsum => Sys2Proof.Machine.execPutTcpCsum s
  | .putTcpUrg => Sys2Proof.Machine.execPutTcpUrg s
  | .putMqttCtrl => Sys2Proof.Machine.execPutMqttCtrl s
  | .putMqttType => Sys2Proof.Machine.execPutMqttType s
  | .putMqttFlags => Sys2Proof.Machine.execPutMqttFlags s
  | .putMqttRl => Sys2Proof.Machine.execPutMqttRl s
  | .getLocL4 => Sys2Proof.Machine.execGetLocL4 s
  | .getLocPl => Sys2Proof.Machine.execGetLocPl s
  | .getLenTpl => Sys2Proof.Machine.execGetLenTpl s
  | .getLenUdppl => Sys2Proof.Machine.execGetLenUdppl s
  | .getLenIcmpdata => Sys2Proof.Machine.execGetLenIcmpdata s
  | .isIp => Sys2Proof.Machine.execIsIp s
  | .isIpUnicast => Sys2Proof.Machine.execIsIpUnicast s
  | .isArpReq => Sys2Proof.Machine.execIsArpReq s
  | .isPingReq => Sys2Proof.Machine.execIsPingReq s
  | .isUdpValid => Sys2Proof.Machine.execIsUdpValid s
  | .isTcp => Sys2Proof.Machine.execIsTcp s
  | .isSynack => Sys2Proof.Machine.execIsSynack s
  | .isAck => Sys2Proof.Machine.execIsAck s
  | .isPshack => Sys2Proof.Machine.execIsPshack s
  | .isFinack => Sys2Proof.Machine.execIsFinack s
  | .isConnack => Sys2Proof.Machine.execIsConnack s
  | .isPubsuback => Sys2Proof.Machine.execIsPubsuback s
  | .isUnsuback => Sys2Proof.Machine.execIsUnsuback s
  | .isPingresp => Sys2Proof.Machine.execIsPingresp s
  | .clsGet => Sys2Proof.Machine.execClsGet s
  | .classify => Sys2Proof.Machine.execClassify s
  | .bldArpReply => Sys2Proof.Machine.execBldArpReply s
  | .bldArpReq => Sys2Proof.Machine.execBldArpReq s
  | .bldIcmpReply => Sys2Proof.Machine.execBldIcmpReply s
  | .bldUdpReply s0len => Sys2Proof.Machine.execBldUdpReply s0len s
  | .bldTcpSyn => Sys2Proof.Machine.execBldTcpSyn s
  | .bldTcpAck => Sys2Proof.Machine.execBldTcpAck s
  | .bldMqttConnect => Sys2Proof.Machine.execBldMqttConnect s
  | .bldMqttPublish s0len s1len => Sys2Proof.Machine.execBldMqttPublish s0len s1len s
  | .bldMqttSubscribe s0len => Sys2Proof.Machine.execBldMqttSubscribe s0len s
  | .bldMqttUnsubscribe s0len => Sys2Proof.Machine.execBldMqttUnsubscribe s0len s
  | .bldMqttDisconnect => Sys2Proof.Machine.execBldMqttDisconnect s
  | .bldMqttPingreq => Sys2Proof.Machine.execBldMqttPingreq s
  | .req k => Sys2Proof.Machine.execReq k s
  | .step tw => Sys2Proof.Machine.execStep tw s
  | .ssmGet => Sys2Proof.Machine.execSsmGet s
  | .ssmGetPort => Sys2Proof.Machine.execSsmGetPort s
  | .wireEthType0800 => Sys2Proof.Machine.execWireEthType0800 s
  | .wireEthType0806 => Sys2Proof.Machine.execWireEthType0806 s
  | .wireArpOper0001 => Sys2Proof.Machine.execWireArpOper0001 s
  | .wireArpOper0002 => Sys2Proof.Machine.execWireArpOper0002 s
  | .wireIpProto01 => Sys2Proof.Machine.execWireIpProto01 s
  | .wireIpProto06 => Sys2Proof.Machine.execWireIpProto06 s
  | .wireIpProto11 => Sys2Proof.Machine.execWireIpProto11 s
  | .wireIcmpType08 => Sys2Proof.Machine.execWireIcmpType08 s
  | .wireIcmpType00 => Sys2Proof.Machine.execWireIcmpType00 s
  | .wireTcpFlags12 => Sys2Proof.Machine.execWireTcpFlags12 s
  | .wireTcpFlags10 => Sys2Proof.Machine.execWireTcpFlags10 s
  | .wireTcpFlags18 => Sys2Proof.Machine.execWireTcpFlags18 s
  | .wireTcpFlags11 => Sys2Proof.Machine.execWireTcpFlags11 s
  | .wireTcpFlags02 => Sys2Proof.Machine.execWireTcpFlags02 s
  | .wireMqttCtrl20 => Sys2Proof.Machine.execWireMqttCtrl20 s
  | .wireMqttCtrl90 => Sys2Proof.Machine.execWireMqttCtrl90 s
  | .wireMqttCtrlB0 => Sys2Proof.Machine.execWireMqttCtrlB0 s
  | .wireMqttCtrlD0 => Sys2Proof.Machine.execWireMqttCtrlD0 s
  | .wireMqttCtrl10 => Sys2Proof.Machine.execWireMqttCtrl10 s
  | .wireMqttCtrl30 => Sys2Proof.Machine.execWireMqttCtrl30 s
  | .wireMqttCtrl82 => Sys2Proof.Machine.execWireMqttCtrl82 s
  | .wireMqttCtrlA2 => Sys2Proof.Machine.execWireMqttCtrlA2 s
  | .wireMqttCtrlE0 => Sys2Proof.Machine.execWireMqttCtrlE0 s
  | .wireMqttCtrlC0 => Sys2Proof.Machine.execWireMqttCtrlC0 s

end Sys2Proof.Machine
end

