-- ==== Sys2Proof/Machine/Port.lean ====
section
/-! DEFINITION. How PE takes what comes to it (R18, R49, R120, R500): one stimulus, to completion. -/

namespace Sys2Proof.Machine

/-- The next stimulus has been taken. -/
def State.withPending (l : List Stimulus) (s : State) : State := { s with pending := l }

/-- A command has returned: its result is observed (R454). -/
def returnResult : Host.Outcome State Fault Refusal → Host.Outcome State Fault Refusal
  | .next t => .next t.observe
  | .fault r => .fault r
  | .refused r => .refused r

/-- A command is executed to completion (R85, R120): its word is decoded and run; an illegal word is `ERR_OPCODE` and has
no other effect (R128). -/
def takeCommand (c : Command) (s : State) : Host.Outcome State Fault Refusal :=
  returnResult
    (match decodeCommand c.cw with
     | .ok i => exec i (s.present c)
     | .error _ => .next ((s.present c).raise .errOpcode))

/-- A value is put to the frame decoder (log 9). A value that no row of R110 has is dropped (R113). -/
def takeWire (f : WireField) (v : BitVec 16) (s : State) : Host.Outcome State Fault Refusal :=
  match decodeWire f v.toNat with
  | .ok i => exec i s
  | .error _ => .next s

/-- One stimulus is taken. -/
def takeStimulus (s : State) : Stimulus → Host.Outcome State Fault Refusal
  | .command c => takeCommand c s
  | .wire f v => takeWire f v s
  | .reset => .next s.applyReset

/-- One step of PE: the next stimulus is taken; with nothing presented PE is quiescent and stays so (R454). -/
def takeNext (s : State) : Host.Outcome State Fault Refusal :=
  match s.pending with
  | [] => .next s
  | x :: rest => takeStimulus (s.withPending rest) x

/-- A stimulus is presented before everything else that is pending. -/
def State.presentFirst (x : Stimulus) (s : State) : State := s.withPending (x :: s.pending)

end Sys2Proof.Machine
end

