-- ==== Sys2Proof/Machine/Step.lean ====
section
/-! DEFINITION. The step of the machine, and how a word of the opcode table is put where the next step takes it. -/

namespace Sys2Proof.Machine

/-- One step: PE takes the next of what is presented to it (R18, R120, R454). -/
def step (s : State) : Host.Outcome State Fault Refusal := takeNext s

/-- The state in which a table word is the next thing presented to PE, with zero write data, zero stream bytes and a
quiet environment (log 1, log 10). -/
def State.withFetchWord (s : State) (nbits w : Nat) : State := s.presentFirst (stimulusOfWord (tableWord nbits w))

end Sys2Proof.Machine
end

