-- ==== Sys2Proof/Machine/HostLoop.lean ====
section
/-! DEFINITION. The host's own programs that the spec writes down: the pseudo-commands of R127, the builder of each
selection (R400) and the control loop of R451. They are not part of PE and no step uses them: a host program only
chooses what comes next on the command port, and every choice is a legal one. -/

namespace Sys2Proof.Machine

/-! ### The pseudo-commands (R127) -/

/-- The numbers a pseudo-command obtains from its `GET` commands. -/
structure Obtained where
  /-- `<a>`, the result of `GET_LOC_L4`. -/
  a : Nat
  /-- `<t>`, the result of `GET_IP_LEN`. -/
  t : Nat
  /-- `<h>`, the result of `GET_IP_IHL`. -/
  h : Nat
  /-- `<u>`, the result of `GET_UDP_LEN`. -/
  u : Nat
deriving DecidableEq, Repr

/-- The pseudo-commands. -/
inductive PseudoCommand where
  /-- `CK_IP`. -/
  | ckIp
  /-- `CK_ICMP`. -/
  | ckIcmp
  /-- `CK_ICMP_GEN`. -/
  | ckIcmpGen
  /-- `CK_UDP`. -/
  | ckUdp
  /-- `CK_TCP`. -/
  | ckTcp
deriving DecidableEq, Repr

/-- The `GET` commands that a pseudo-command begins with, in order (R127). -/
def PseudoCommand.obtain : PseudoCommand → List Instr
  | .ckIp => [.getIpIhl]
  | .ckIcmp => [.getLocL4, .getIpLen, .getIpIhl]
  | .ckIcmpGen => [.getLocL4, .getIpLen, .getIpIhl]
  | .ckUdp => [.getLocL4, .getUdpLen]
  | .ckTcp => [.getLocL4, .getIpLen, .getIpIhl]

/-- The checksum commands of a pseudo-command, with the numbers obtained (R127). A host issues them only where no length
is negative: no command word carries a negative length. -/
def PseudoCommand.expand (n : Obtained) : PseudoCommand → List Instr
  | .ckIp => [.ckReset, .ckAcc 14 (4 * n.h), .ckFinal]
  | .ckIcmp => [.ckReset, .ckAcc n.a (n.t - 4 * n.h), .ckFinal]
  | .ckIcmpGen => [.ckReset, .ckAcc n.a 2, .ckAcc (n.a + 4) (n.t - 4 * n.h - 4), .ckFinal]
  | .ckUdp =>
    [.ckReset, .ckAcc 26 8, .ckAccW16 0x0011, .ckAccW16 (BitVec.ofNat 16 n.u), .ckAcc n.a n.u, .ckFinal]
  | .ckTcp =>
    [.ckReset, .ckAcc 26 8, .ckAccW16 0x0006, .ckAccW16 (BitVec.ofNat 16 (n.t - 4 * n.h)),
     .ckAcc n.a (n.t - 4 * n.h), .ckFinal]

/-! ### The selected builder (R400) -/

/-- The builder of a selection, with the lengths of the topic and of the message; none for `SEL_NONE` and for a code that
`STEP` never returns. -/
def selectedBuilder (topicLen messageLen : Nat) (sel : Data) : Option Instr :=
  if sel = selSyn then some .bldTcpSyn
  else if sel = selAck then some .bldTcpAck
  else if sel = selConnect then some .bldMqttConnect
  else if sel = selPublish then some (.bldMqttPublish topicLen messageLen)
  else if sel = selSubscribe then some (.bldMqttSubscribe topicLen)
  else if sel = selUnsubscribe then some (.bldMqttUnsubscribe topicLen)
  else if sel = selDisconnect then some .bldMqttDisconnect
  else none

/-! ### The control loop (R451) -/

/-- The stateless responder of a classification: exactly one bit of 0, 3 and 4 can be set (R452). -/
def responder (payloadLen : Nat) (c : Data) : Option Instr :=
  if c.getLsbD 0 then some .bldArpReply
  else if c.getLsbD 3 then some .bldIcmpReply
  else if c.getLsbD 4 then some (.bldUdpReply payloadLen)
  else none

/-- What the host itself brings to one turn of the loop. -/
structure HostInput where
  /-- The command a console line asks for, if any: `REQ k` or `CFG_SET_IP`. -/
  console : Option Instr
  /-- Whether the TimeWait delay has elapsed. -/
  tw : Bool
  /-- The length of the UDP payload. -/
  payloadLen : Nat
  /-- The length of the topic. -/
  topicLen : Nat
  /-- The length of the message. -/
  messageLen : Nat
deriving DecidableEq, Repr

/-- The command the host has just had answered. -/
inductive HostPhase where
  /-- The loop begins. -/
  | begin
  /-- `RX_POLL 1522`. -/
  | polled
  /-- `CLASSIFY`. -/
  | classified
  /-- The responder's builder. -/
  | responded
  /-- The responder's `TX`. -/
  | responseSent
  /-- The console's command. -/
  | console
  /-- `STEP tw`. -/
  | stepped
  /-- The selected builder. -/
  | built
deriving DecidableEq, Repr

/-- The loop goes on with its console command, if there is one, and otherwise with `STEP`. -/
def HostInput.onConsole (x : HostInput) : Instr × HostPhase :=
  match x.console with
  | some i => (i, .console)
  | none => (.step x.tw, .stepped)

/-- The next command of the loop, from what was answered last (R451). -/
def hostNext (x : HostInput) (rdata : Data) : HostPhase → Instr × HostPhase
  | .begin => (.rxPoll 1522, .polled)
  | .polled => if rdata.toNat % 65536 = 0 then x.onConsole else (.classify, .classified)
  | .classified =>
    match responder x.payloadLen rdata with
    | some b => (b, .responded)
    | none => x.onConsole
  | .responded => (.tx, .responseSent)
  | .responseSent => x.onConsole
  | .console => (.step x.tw, .stepped)
  | .stepped =>
    match selectedBuilder x.topicLen x.messageLen rdata with
    | some b => (b, .built)
    | none => (.rxPoll 1522, .polled)
  | .built => (.tx, .begin)

end Sys2Proof.Machine
end

