-- ==== Sys2Proof/Safety.lean ====
section
/-! DEFINITION. The terms of the claims: what PE owes at the end of every command (R453), what its session keeps from
reset on (R399), runs of several instructions, the legal command words, the arithmetic of one's-complement sums, and what
a built frame holds. -/

namespace Sys2Proof.Machine

/-- The invariant of R453 with the form of the model's memory: the buffer is in canonical form and lists only bytes that
exist (R70), `frame_len <= BUF_CAP` (R23), and `state <= 8` (R395). `req <= 3` and the widths hold by their types. -/
structure State.Inv (s : State) : Prop where
  /-- The buffer is in canonical form. -/
  wf : Memory.wf s.buf
  /-- Every byte of the buffer exists. -/
  inRange : Memory.inRange s.buf
  /-- `frame_len <= BUF_CAP`. -/
  frameFits : s.flen ≤ Config.bufCap
  /-- `state` is no reserved code. -/
  stateLegal : s.state.toNat ≤ 8

/-- The session invariants (a) and (b) of R399: outside Closed a request is pending; SynAckReceived and the reserved codes
do not occur. -/
structure State.SessionInv (s : State) : Prop where
  /-- `state != Closed` implies `req != None`. -/
  requested : s.state ≠ 0 → s.req ≠ 0
  /-- `state` is never 2. -/
  notSynAckReceived : s.state ≠ 2
  /-- `state` is never above 8. -/
  stateLegal : s.state.toNat ≤ 8

/-! ### Runs of instructions -/

/-- Instructions executed one after another, to the end or to the first stop. -/
def runAll : List Instr → State → Host.Outcome State Fault Refusal
  | [], s => .next s
  | i :: is, s =>
    match exec i s with
    | .next t => runAll is t
    | .fault r => .fault r
    | .refused r => .refused r

/-- A predicate command answers 1 (R16). -/
def answersOne (i : Instr) (s : State) : Bool :=
  match exec i s with
  | .next t => t.rdata == 1
  | .fault _ => false
  | .refused _ => false

/-! ### Groups of instructions -/

/-- The fourteen predicates of CLS (R125), in the order of the bits of `cls` (R24). -/
def predicateCommands : List Instr :=
  [.isArpReq, .isIp, .isIpUnicast, .isPingReq, .isUdpValid, .isTcp, .isSynack, .isAck, .isPshack, .isFinack,
   .isConnack, .isPubsuback, .isUnsuback, .isPingresp]

/-- The eight TCP-event predicates (R310 to R317). -/
def eventCommands : List Instr :=
  [.isSynack, .isAck, .isPshack, .isFinack, .isConnack, .isPubsuback, .isUnsuback, .isPingresp]

/-- The six MQTT builders (R355 to R360). -/
def isMqttBuilder (i : Instr) : Prop :=
  i = .bldMqttConnect ∨ (∃ n m, i = .bldMqttPublish n m) ∨ (∃ n, i = .bldMqttSubscribe n) ∨
  (∃ n, i = .bldMqttUnsubscribe n) ∨ i = .bldMqttDisconnect ∨ i = .bldMqttPingreq

/-- The builders that compute a checksum: all but the two ARP builders (R342). -/
def isIpBuilder (i : Instr) : Prop :=
  i = .bldIcmpReply ∨ (∃ n, i = .bldUdpReply n) ∨ i = .bldTcpSyn ∨ i = .bldTcpAck ∨ isMqttBuilder i

/-- The builders (R126). -/
def isBuilder (i : Instr) : Prop := i = .bldArpReply ∨ i = .bldArpReq ∨ isIpBuilder i

/-! ### Legal command words (R121 to R128), by format -/

/-- The field ids that name a field of the frame (R124). -/
def fieldIds : List Nat :=
  [0x00, 0x01, 0x02, 0x10, 0x11, 0x12, 0x13, 0x14, 0x15, 0x16, 0x17, 0x18,
   0x20, 0x21, 0x22, 0x23, 0x24, 0x25, 0x26, 0x27, 0x28, 0x29, 0x2A, 0x30, 0x31, 0x32, 0x33, 0x34] ++
  [0x40, 0x41, 0x42, 0x43, 0x50, 0x51, 0x52, 0x53, 0x54, 0x55, 0x56, 0x57, 0x58, 0x59, 0x60, 0x61, 0x62, 0x63]

/-- The opcodes of formats Z and W, whose fields are both zero (R121 to R126). -/
def plainOpcodes : List Nat :=
  [0x02, 0x06, 0x08, 0x09, 0x0A, 0x0B, 0x0C, 0x0D, 0x0E, 0x0F, 0x11, 0x20, 0x23] ++
  [0x50, 0x51, 0x52, 0x53, 0x54, 0x55, 0x56, 0x57, 0x58, 0x59, 0x5A, 0x5B, 0x5C, 0x5D, 0x5E, 0x5F] ++
  [0x60, 0x61, 0x62, 0x64, 0x65, 0x66, 0x6A, 0x6B, 0x72, 0x73]

/-- A command word is legal: its opcode is assigned, every field that its format calls zero is zero, and the `fid` of a
`GET` or `PUT` is assigned (R121, R128). -/
def legalWord (cw : BitVec 32) : Prop :=
  let op := cw.toNat / 16777216
  let hi := cw.toNat / 4096 % 4096
  let lo := cw.toNat % 4096
  (op ∈ plainOpcodes ∧ hi = 0 ∧ lo = 0) ∨
  (op ∈ [0x01, 0x05] ∧ hi = 0) ∨
  op ∈ [0x21, 0x67] ∨
  (op = 0x22 ∧ hi < 16) ∨
  (op = 0x03 ∧ lo = 0) ∨
  (op = 0x04 ∧ lo < 256) ∨
  (op = 0x30 ∧ lo = 0 ∧ hi % 16 = 0 ∧ hi / 16 ∈ fieldIds ++ [0x70, 0x71, 0x72, 0x73, 0x74]) ∨
  (op = 0x31 ∧ lo = 0 ∧ hi % 16 = 0 ∧ hi / 16 ∈ fieldIds) ∨
  (op = 0x70 ∧ hi = 0 ∧ lo < 4) ∨
  (op ∈ [0x10, 0x71] ∧ hi = 0 ∧ lo < 2) ∨
  (op ∈ [0x63, 0x68, 0x69] ∧ lo = 0)

/-! ### One's-complement sums (R151, R156, R158) -/

/-- The sum of `buf[a..a+n)` as R158(b) gives it: the bytes at even positions weigh 256, those at odd positions 1. -/
def State.frameSum (s : State) (a n : Nat) : Nat :=
  ((List.range n).map (fun k => (if k % 2 = 0 then 256 else 1) * (s.byteAt (a + k)).toNat)).sum

/-- The folded value of a sum, by the closed form of R156. -/
def onesFold (n : Nat) : Nat := if n = 0 then 0 else (n - 1) % 65535 + 1

/-! ### What a built frame holds -/

/-- The TCP segment `g`, laid out in the buffer of `t` by the pseudocode of R350, from the registers and parameters of `s`. -/
structure State.Carries (t s : State) (g : Segment) : Prop where
  /-- `ETH_DST <- PEER_MAC`. -/
  ethDst : t.memRead 0 6 = s.params.peerMac.toNat
  /-- `ETH_SRC <- local_mac`. -/
  ethSrc : t.memRead 6 6 = s.localMac.toNat
  /-- `ETH_TYPE <- 0x0800`. -/
  ethType : t.memRead 12 2 = 0x0800
  /-- IP version 4, header length 5. -/
  verIhl : t.byteAt 14 = 0x45
  /-- `IP_TOS`. -/
  tos : t.byteAt 15 = s.params.ipTos
  /-- `IP_LEN <- 20 + T`. -/
  ipLen : t.memRead 16 2 = 20 + g.tcpLen
  /-- `IP_ID`. -/
  ipId : t.memRead 18 2 = s.params.ipId.toNat
  /-- `IP_FLAGSFRAG`. -/
  flagsFrag : t.memRead 20 2 = s.params.ipFlagsFrag.toNat
  /-- `IP_TTL`. -/
  ttl : t.byteAt 22 = s.params.ipTtl
  /-- `IP_PROTO <- 6`. -/
  proto : t.byteAt 23 = 6
  /-- `IP_CSUM <- ck_ip()`, taken with `IP_CSUM` 0: the sum of the header without its checksum (R158). -/
  ipCsum : t.memRead 24 2 = 65535 - onesFold (t.frameSum 14 10 + t.frameSum 26 8)
  /-- `IP_SRC <- local_ip`. -/
  ipSrc : t.memRead 26 4 = s.localIp.toNat
  /-- `IP_DST <- PEER_IP`. -/
  ipDst : t.memRead 30 4 = s.params.peerIp.toNat
  /-- `TCP_SPORT`. -/
  sport : t.memRead 34 2 = g.sport.toNat
  /-- `TCP_DPORT`. -/
  dport : t.memRead 36 2 = g.dport.toNat
  /-- `TCP_SEQ`. -/
  seq : t.memRead 38 4 = g.seq.toNat
  /-- `TCP_ACK`. -/
  ack : t.memRead 42 4 = g.ack.toNat
  /-- `TCP_OFFSFLAGS <- 4096*(5 + o/4) + flags`. -/
  offsFlags : t.memRead 46 2 = 4096 * (5 + g.opts.length / 4) + g.flags
  /-- `TCP_WIN`. -/
  window : t.memRead 48 2 = s.params.tcpWindow.toNat
  /-- `TCP_CSUM <- ck_tcp()`, taken with `TCP_CSUM` 0: the sum of the pseudo-header and of the segment without its
  checksum (R158, R167). -/
  tcpCsum : t.memRead 50 2 =
    65535 - onesFold (t.frameSum 26 8 + 6 + g.tcpLen + t.frameSum 34 16 + t.frameSum 52 (g.tcpLen - 18))
  /-- `TCP_URG <- 0`. -/
  urg : t.memRead 52 2 = 0
  /-- `buf[54..54+o) <- opts`. -/
  opts : ∀ k, k < g.opts.length → g.opts[k]? = some (t.byteAt (54 + k))
  /-- `buf[54+o..54+o+q) <- payload`. -/
  payload : ∀ k, k < g.payload.length → g.payload[k]? = some (t.byteAt (54 + g.opts.length + k))
  /-- Nothing else of the buffer changes. -/
  rest : ∀ a, 54 + g.opts.length + g.payload.length ≤ a → t.byteAt a = s.byteAt a
  /-- The accumulator is left as `ck_tcp()` leaves it: folded, with `T mod 2` as its phase. -/
  acc : t.sum = BitVec.ofNat 32
      (onesFold (t.frameSum 26 8 + 6 + g.tcpLen + t.frameSum 34 16 + t.frameSum 52 (g.tcpLen - 18))) ∧
    t.phase = decide (g.tcpLen % 2 = 1)

end Sys2Proof.Machine
end

