-- ==== Sys2Proof/Certificates/Slice0/Obligations.lean ====
section
/-! DEFINITION. The statements for the provers: what the numbered rules of spec/ say that PE does. -/

open Sys2Proof Sys2Proof.Machine

/-! ### Encoding (R110, R121 to R128) -/

/-- Decoding the word of a well-formed instruction gives the instruction back: no bit of any operand is dropped. -/
def Obligations.DecodeEncode : Prop := ∀ i : Instr, i.wellFormed = true → decode (encode i) = .ok i

/-- Every word that decodes is the word of the instruction it decodes to, which is well formed: a legal word has one
meaning, and no two words have the same one. -/
def Obligations.EncodeDecode : Prop :=
  ∀ (e : Encoded) (i : Instr), decode e = .ok i → encode i = e ∧ i.wellFormed = true

/-- R128: the words that do not decode are exactly the illegal ones, the all-zero word among them; a step that takes an
illegal word ends with `ERR_OPCODE`, with `rdata` 0 (R471), and changes no register and no byte. What moves on all the same,
the inputs, the stream of stimuli and the observed results, is the model's choice (log 15, DESIGN CHOICE). -/
def Obligations.IllegalWordIsErrOpcode : Prop :=
  (∀ cw : BitVec 32, legalWord cw ↔ ∃ i, decodeCommand cw = .ok i) ∧
  ¬ legalWord 0 ∧
  ∀ (c : Command) (rest : List Stimulus) (s : State), s.pending = .command c :: rest → ¬ legalWord c.cw →
    step s = .next
      { s with
        pending := rest, wdata := c.wdata, s0 := c.s0, s1 := c.s1, env := c.env, rdata := 0, status := .errOpcode,
        results := s.results ++ [⟨0, .errOpcode⟩] }

/-- Words written out from the spec's encoding decode to the instructions they stand for (R121 to R126). -/
def Obligations.DecodedWords : Prop :=
  decodeCommand 0x010005F2 = .ok (.rxPoll 1522) ∧
  decodeCommand 0x0401603F = .ok (.bufWr 22 0x3F) ∧
  decodeCommand 0x2100E014 = .ok (.ckAcc 14 20) ∧
  decodeCommand 0x2200ABCD = .ok (.ckAccW16 0xABCD) ∧
  decodeCommand 0x30520000 = .ok .getTcpSeq ∧
  decodeCommand 0x31210000 = .ok .putIpIhl ∧
  decodeCommand 0x30740000 = .ok .getLenIcmpdata ∧
  decodeCommand 0x5F000000 = .ok .classify ∧
  decodeCommand 0x67003005 = .ok (.bldMqttPublish 3 5) ∧
  decodeCommand 0x71000001 = .ok (.step true) ∧
  decodeWire .tcpFlags 0x12 = .ok .wireTcpFlags12

/-! ### The step -/

/-- A step that takes a legal command word is `exec` of its instruction, with the command's data and environment on PE's
inputs, and its result is observed (R120, R49, R454); that the command comes from a stream in State and that the observation
is kept there is the model's choice (log 1, 2). The second clause is the model's choice too, and no rule says it (log 9,
DESIGN CHOICE): a step that takes a value put to the frame decoder is `exec` of its row, and no result is observed. -/
def Obligations.StepRunsDecoded : Prop :=
  (∀ (s : State) (c : Command) (rest : List Stimulus) (i : Instr),
    s.pending = .command c :: rest → decodeCommand c.cw = .ok i →
    ∃ t, exec i { s with pending := rest, wdata := c.wdata, s0 := c.s0, s1 := c.s1, env := c.env } = .next t ∧
      step s = .next { t with results := t.results ++ [⟨t.rdata, t.status⟩] }) ∧
  ∀ (s : State) (f : WireField) (v : BitVec 16) (rest : List Stimulus) (i : Instr),
    s.pending = .wire f v :: rest → decodeWire f v.toNat = .ok i → step s = exec i { s with pending := rest }

/-- R50, R501: a step that takes the reset input puts every register at its reset value and transmits nothing; the five
configuration registers and the bytes of the buffer have no value that this statement gives. That the stream of stimuli, the
observation and the parameters stay is the model's choice (log 14). -/
def Obligations.StepResets : Prop :=
  ∀ (s : State) (rest : List Stimulus), s.pending = .reset :: rest →
    ∃ t, step s = .next t ∧
      t.state = 0 ∧ t.req = 0 ∧ t.sum = 0 ∧ t.phase = false ∧ t.frameLen = 0 ∧ t.cls = 0 ∧ t.clsFresh = false ∧
      t.localPort = 0 ∧ t.peerSeq = 0 ∧ t.peerAck = 0 ∧ t.consumedLen = 0 ∧ t.lastSport = 0 ∧ t.lastDport = 0 ∧
      t.txLog = s.txLog ∧ t.results = s.results ∧ t.pending = rest ∧ t.params = s.params

/-- R50: the registers the spec gives a reset value hold it in the state after reset. -/
def Obligations.ResetValues : Prop :=
  State.reset.state = 0 ∧ State.reset.req = 0 ∧ State.reset.sum = 0 ∧ State.reset.phase = false ∧
  State.reset.frameLen = 0 ∧ State.reset.cls = 0 ∧ State.reset.clsFresh = false ∧ State.reset.localPort = 0 ∧
  State.reset.peerSeq = 0 ∧ State.reset.peerAck = 0 ∧ State.reset.consumedLen = 0 ∧
  State.reset.lastSport = 0 ∧ State.reset.lastDport = 0

/-- PE never stops (R474, R488): every step has a next state, and with nothing presented it is the same state (R454). -/
def Obligations.NeverStops : Prop :=
  (∀ s : State, ∃ t, step s = .next t) ∧ ∀ s : State, s.pending = [] → step s = .next s

/-! ### Invariants -/

/-- What PE owes at the end of a command (R453), with the canonical form of the model's memory: every step keeps it, from
every state that has it. -/
def Obligations.StepKeepsInv : Prop := ∀ s t : State, s.Inv → step s = .next t → t.Inv

/-- The invariants (a) and (b) of R399 are kept by every step, from every state that has them. -/
def Obligations.StepKeepsSessionInv : Prop := ∀ s t : State, s.SessionInv → step s = .next t → t.SessionInv

/-- Both invariants hold right after reset. -/
def Obligations.ResetMeetsInvariants : Prop := State.reset.Inv ∧ State.reset.SessionInv

/-! ### Faults and outputs -/

/-- R472: a command that ends with a fault has no effect at all, and the classifiers do not fault. Its result is 0 (R471). -/
def Obligations.FaultsLeaveNoTrace : Prop :=
  (∀ (i : Instr) (s t : State), exec i s = .next t → t.status ≠ .ok → t = { s with rdata := 0, status := t.status }) ∧
  ∀ (i : Instr) (s t : State), i ∈ Instr.classify :: predicateCommands → exec i s = .next t → t.status = .ok

/-- R26: the outputs are not state: no instruction reads what the command before it drove. -/
def Obligations.OutputsAreNotState : Prop :=
  ∀ (i : Instr) (s : State) (r : Data) (st : Status), exec i { s with rdata := r, status := st } = exec i s

/-! ### Who writes what (R20) -/

/-- R20, R30 to R32: `state` is written by STEP only, `req` by REQ and STEP only, `local_port` by BLD_TCP_SYN only; and the
event latch by the eight TCP-event predicates and CLASSIFY only (R38). -/
def Obligations.SessionRegisterWriters : Prop :=
  ∀ (i : Instr) (s t : State), exec i s = .next t →
    ((∀ tw, i ≠ .step tw) → t.state = s.state ∧ ((∀ k, i ≠ .req k) → t.req = s.req)) ∧
    (i ≠ .bldTcpSyn → t.localPort = s.localPort) ∧
    (i ∉ Instr.classify :: eventCommands →
      t.peerSeq = s.peerSeq ∧ t.peerAck = s.peerAck ∧ t.consumedLen = s.consumedLen ∧
      t.lastSport = s.lastSport ∧ t.lastDport = s.lastDport)

/-- R20, R40 to R44: each configuration register is written by its own CFG_SET command only; only TX transmits; and no
instruction writes the model's own fields, the parameters, the inputs, the stream of stimuli and the results (log 1, 2, 5). -/
def Obligations.ConfigRegisterWriters : Prop :=
  ∀ (i : Instr) (s t : State), exec i s = .next t →
    (i ≠ .cfgSetMac → t.localMac = s.localMac) ∧ (i ≠ .cfgSetIp → t.localIp = s.localIp) ∧
    (i ≠ .cfgSetSn → t.subnetMask = s.subnetMask) ∧ (i ≠ .cfgSetGw → t.gateway = s.gateway) ∧
    ((∀ k, i ≠ .cfgSetDhcp k) → t.dhcpEn = s.dhcpEn) ∧ (i ≠ .tx → t.txLog = s.txLog) ∧
    t.params = s.params ∧ t.wdata = s.wdata ∧ t.s0 = s.s0 ∧ t.s1 = s.s1 ∧ t.env = s.env ∧
    t.pending = s.pending ∧ t.results = s.results ∧ t.resetCount = s.resetCount

/-- R510: the accumulator is written by the four CK commands, IS_IP, IS_UDP_VALID, CLASSIFY and the builders that compute a
checksum, and by nothing else. -/
def Obligations.AccumulatorWriters : Prop :=
  ∀ (i : Instr) (s t : State), exec i s = .next t →
    i ≠ .ckReset → (∀ off len, i ≠ .ckAcc off len) → (∀ imm, i ≠ .ckAccW16 imm) → i ≠ .ckFinal →
    i ≠ .isIp → i ≠ .isUdpValid → i ≠ .classify → ¬ isIpBuilder i → t.sum = s.sum ∧ t.phase = s.phase

/-- R71, R78: the buffer is written by RX_POLL, BUF_WR, the PUT commands and the builders only, and `frame_len` by RX_POLL,
BUF_SETLEN and the builders only. R25: a command that changes the buffer or `frame_len` sets `cls` and `cls_fresh` to 0, and
no command but CLASSIFY does anything to them but keep them or set them to 0; besides those frame writers, `cls` is written by
CLASSIFY only and `cls_fresh` by CLASSIFY and STEP only. -/
def Obligations.BufferWriters : Prop :=
  ∀ (i : Instr) (s t : State), exec i s = .next t →
    ((∀ len, i ≠ .rxPoll len) → (∀ idx b, i ≠ .bufWr idx b) → (∀ f : Field, i ≠ f.putInstr) → ¬ isBuilder i →
      ∀ a, t.byteAt a = s.byteAt a) ∧
    ((∀ len, i ≠ .rxPoll len) → (∀ len, i ≠ .bufSetlen len) → ¬ isBuilder i → t.frameLen = s.frameLen) ∧
    ((t.frameLen ≠ s.frameLen ∨ ∃ a, t.byteAt a ≠ s.byteAt a) → t.cls = 0 ∧ t.clsFresh = false) ∧
    (i ≠ .classify → (t.cls = s.cls ∨ t.cls = 0) ∧ (t.clsFresh = s.clsFresh ∨ t.clsFresh = false)) ∧
    ((∀ len, i ≠ .rxPoll len) → (∀ idx b, i ≠ .bufWr idx b) → (∀ len, i ≠ .bufSetlen len) →
      (∀ f : Field, i ≠ f.putInstr) → ¬ isBuilder i → i ≠ .classify →
      t.cls = s.cls ∧ ((∀ tw, i ≠ .step tw) → t.clsFresh = s.clsFresh))

/-! ### CKS: the checksum unit -/

/-- R152, R154: CK_RESET clears `sum` and `phase`; CK_ACC_W16 adds the two bytes of its immediate, the first one in the half
of the word that `phase` says, and leaves `phase`. -/
def Obligations.CkResetAndImmediate : Prop :=
  (∀ s : State, exec .ckReset s = .next { s with sum := 0, phase := false, rdata := 0, status := .ok }) ∧
  ∀ (s : State) (imm : BitVec 16),
    exec (.ckAccW16 imm) s = .next
      { s with
        sum := BitVec.ofNat 32 (s.sum.toNat +
          (if s.phase then imm.toNat / 256 + 256 * (imm.toNat % 256) else imm.toNat)),
        rdata := 0, status := .ok }

/-- R153: CK_ACC of a region in frame adds every byte, with weight 256 where the phase is 0 and 1 where it is 1, modulo 2^32,
and toggles `phase` once a byte; a region not in frame is `ERR_BOUNDS`. -/
def Obligations.CkAccSums : Prop :=
  ∀ (s : State) (off len : Nat),
    (off + len ≤ s.flen →
      exec (.ckAcc off len) s = .next
        { s with
          sum := BitVec.ofNat 32 (s.sum.toNat +
            ((List.range len).map (fun k =>
              (if (k % 2 = 0 ↔ s.phase = false) then 256 else 1) * (s.byteAt (off + k)).toNat)).sum),
          phase := xor s.phase (decide (len % 2 = 1)), rdata := 0, status := .ok }) ∧
    (s.flen < off + len → exec (.ckAcc off len) s = .next { s with rdata := 0, status := .errBounds })

/-- R155, R156: CK_FINAL leaves in `sum` the folded value by the closed form of R156, below 2^16, returns 0xFFFF less that
value, and keeps `phase`; a second CK_FINAL returns the same. -/
def Obligations.CkFinalFolds : Prop :=
  ∀ s : State,
    exec .ckFinal s = .next
      { s with
        sum := BitVec.ofNat 32 (onesFold s.sum.toNat), rdata := BitVec.ofNat 48 (65535 - onesFold s.sum.toNat),
        status := .ok } ∧
    onesFold s.sum.toNat ≤ 65535 ∧
    ∀ t u, exec .ckFinal s = .next t → exec .ckFinal t = .next u → u = t

/-- R158(a): accumulating a region in two pieces, of any lengths, equals accumulating it whole. -/
def Obligations.CkAccSplits : Prop :=
  ∀ (s t : State) (a n m : Nat), a + (n + m) ≤ s.flen →
    (runAll [.ckAcc a n, .ckAcc (a + n) m] s = .next t ↔ exec (.ckAcc a (n + m)) s = .next t)

/-- R159, R160: writing the checksum of a region into its zero field, which lies at an even position of the region, makes the
same computation return zero. -/
def Obligations.CkRoundTrip : Prop :=
  ∀ (s t u : State) (a n k : Nat), s.Inv → a + n ≤ s.flen → k % 2 = 0 → k + 2 ≤ n →
    s.byteAt (a + k) = 0 → s.byteAt (a + k + 1) = 0 →
    runAll [.ckReset, .ckAcc a n, .ckFinal] s = .next t →
    runAll [.bufWr (a + k) (BitVec.ofNat 8 (t.rdata.toNat / 256)), .bufWr (a + k + 1) (BitVec.ofNat 8 t.rdata.toNat),
      .ckReset, .ckAcc a n, .ckFinal] t = .next u →
    u.rdata = 0 ∧ u.status = .ok

/-- R127, R163: the pseudo-command CK_IP, with the header length its GET obtained, returns the checksum of the header that
lies in frame, and verifies exactly when the folded sum is 0xFFFF (R159). -/
def Obligations.PseudoCkIp : Prop :=
  ∀ (s : State) (n : Obtained), n.h = (s.byteAt 14).toNat % 16 → 15 ≤ s.flen → 14 + 4 * n.h ≤ s.flen →
    ∃ t, runAll (PseudoCommand.obtain .ckIp ++ PseudoCommand.expand n .ckIp) s = .next t ∧ t.status = .ok ∧
      t.rdata.toNat = 65535 - onesFold (s.frameSum 14 (4 * n.h)) ∧
      (t.rdata = 0 ↔ onesFold (s.frameSum 14 (4 * n.h)) = 65535)

/-! ### PRS: the parser -/

/-- R101 to R108, R124: where every field lies. -/
def Obligations.FieldLayout : Prop :=
  (∀ r ∈ ([(.ethDst, 0, 6), (.ethSrc, 6, 6), (.ethType, 12, 2)] : List (Field × Nat × Nat)),
    fieldDesc r.1 = ⟨.eth, r.2.1, .bytes r.2.2⟩) ∧
  (∀ r ∈ ([(.arpHtype, 0, 2), (.arpPtype, 2, 2), (.arpHlen, 4, 1), (.arpPlen, 5, 1), (.arpOper, 6, 2), (.arpSha, 8, 6),
      (.arpSpa, 14, 4), (.arpTha, 18, 6), (.arpTpa, 24, 4), (.ipTos, 1, 1), (.ipLen, 2, 2), (.ipId, 4, 2),
      (.ipFlagsfrag, 6, 2), (.ipTtl, 8, 1), (.ipProto, 9, 1), (.ipCsum, 10, 2), (.ipSrc, 12, 4), (.ipDst, 16, 4)] :
        List (Field × Nat × Nat)),
    fieldDesc r.1 = ⟨.l3, r.2.1, .bytes r.2.2⟩) ∧
  (∀ r ∈ ([(.icmpType, 0, 1), (.icmpCode, 1, 1), (.icmpCsum, 2, 2), (.icmpId, 4, 2), (.icmpSeq, 6, 2), (.udpSport, 0, 2),
      (.udpDport, 2, 2), (.udpLen, 4, 2), (.udpCsum, 6, 2), (.tcpSport, 0, 2), (.tcpDport, 2, 2), (.tcpSeq, 4, 4),
      (.tcpAck, 8, 4), (.tcpFlags, 13, 1), (.tcpOffsflags, 12, 2), (.tcpWin, 14, 2), (.tcpCsum, 16, 2),
      (.tcpUrg, 18, 2)] : List (Field × Nat × Nat)),
    fieldDesc r.1 = ⟨.l4, r.2.1, .bytes r.2.2⟩) ∧
  fieldDesc .ipVer = ⟨.l3, 0, .hi⟩ ∧ fieldDesc .ipIhl = ⟨.l3, 0, .lo⟩ ∧ fieldDesc .tcpDoff = ⟨.l4, 12, .hi⟩ ∧
  fieldDesc .mqttCtrl = ⟨.pl, 0, .bytes 1⟩ ∧ fieldDesc .mqttType = ⟨.pl, 0, .hi⟩ ∧
  fieldDesc .mqttFlags = ⟨.pl, 0, .lo⟩ ∧ fieldDesc .mqttRl = ⟨.pl, 1, .bytes 1⟩

/-- R14: `MemRead` is the big-endian value of its bytes, and `MemWrite` stores those bytes of its value and no other. -/
def Obligations.MemoryPrimitives : Prop :=
  (∀ (s : State) (a n : Nat),
    s.memRead a n = ((List.range n).map (fun k => (s.byteAt (a + k)).toNat * 256 ^ (n - 1 - k))).sum) ∧
  ∀ (s : State) (a n v x : Nat),
    (s.memWrite a n v).byteAt x =
      if a ≤ x ∧ x < a + n then BitVec.ofNat 8 (v / 256 ^ (n - 1 - (x - a))) else s.byteAt x

/-- R17, R181: the bases, resolved from the buffer at the moment of the access, and the bytes that must be in frame for it. -/
def Obligations.BaseResolution : Prop :=
  ∀ s : State,
    s.baseAddr .eth = 0 ∧ s.baseAddr .l3 = 14 ∧
    s.baseAddr .l4 = 14 + 4 * ((s.byteAt 14).toNat % 16) ∧
    s.baseAddr .pl = s.baseAddr .l4 + 4 * ((s.byteAt (s.baseAddr .l4 + 12)).toNat / 16) ∧
    s.baseInFrame .eth = true ∧ s.baseInFrame .l3 = true ∧
    (s.baseInFrame .l4 = true ↔ 15 ≤ s.flen) ∧
    (s.baseInFrame .pl = true ↔ 15 ≤ s.flen ∧ s.baseAddr .l4 + 13 ≤ s.flen)

/-- R182: every GET of a field in frame returns its value, whole bytes as a big-endian number and a nibble as a number, and
changes nothing; a GET of a field that is not in frame is `ERR_BOUNDS`. -/
def Obligations.GetReadsField : Prop :=
  ∀ (f : Field) (s : State),
    let d := fieldDesc f
    let a := s.baseAddr d.base + d.off
    ((s.baseInFrame d.base = true ∧ a + d.shape.bytesTouched ≤ s.flen) →
      (∀ w, d.shape = .bytes w →
        exec f.getInstr s = .next { s with rdata := BitVec.ofNat 48 (s.memRead a w), status := .ok }) ∧
      (d.shape = .hi →
        exec f.getInstr s = .next { s with rdata := BitVec.ofNat 48 ((s.byteAt a).toNat / 16), status := .ok }) ∧
      (d.shape = .lo →
        exec f.getInstr s = .next { s with rdata := BitVec.ofNat 48 ((s.byteAt a).toNat % 16), status := .ok })) ∧
    (¬ (s.baseInFrame d.base = true ∧ a + d.shape.bytesTouched ≤ s.flen) →
      exec f.getInstr s = .next { s with rdata := 0, status := .errBounds })

/-- R183, R184: every PUT of a value that fits a field in frame writes the field, big-endian, a nibble keeping the other one,
forgets the classification and changes no other byte; a value too wide is `ERR_ARG`, in frame or not; else a field that is
not in frame is `ERR_BOUNDS`. -/
def Obligations.PutWritesField : Prop :=
  ∀ (f : Field) (s : State),
    let d := fieldDesc f
    let a := s.baseAddr d.base + d.off
    let v := s.wdata.toNat
    (v < 2 ^ d.shape.bits → s.baseInFrame d.base = true → a + d.shape.bytesTouched ≤ s.flen →
      ∃ t, exec f.putInstr s = .next t ∧
        t = { s with buf := t.buf, cls := 0, clsFresh := false, rdata := 0, status := .ok } ∧
        (∀ w k, d.shape = .bytes w → k < w → t.byteAt (a + k) = BitVec.ofNat 8 (v / 256 ^ (w - 1 - k))) ∧
        (d.shape = .hi → (t.byteAt a).toNat = 16 * v + (s.byteAt a).toNat % 16) ∧
        (d.shape = .lo → (t.byteAt a).toNat = 16 * ((s.byteAt a).toNat / 16) + v) ∧
        ∀ x, ¬ (a ≤ x ∧ x < a + d.shape.bytesTouched) → t.byteAt x = s.byteAt x) ∧
    (2 ^ d.shape.bits ≤ v → exec f.putInstr s = .next { s with rdata := 0, status := .errArg }) ∧
    (v < 2 ^ d.shape.bits → ¬ (s.baseInFrame d.base = true ∧ a + d.shape.bytesTouched ≤ s.flen) →
      exec f.putInstr s = .next { s with rdata := 0, status := .errBounds })

/-- R186: a PUT that ends well, followed by the GET of the same field, returns the value written, whenever the write does not
touch the bytes that locate the field itself: byte 14 for a field of base L4 or PL, byte L4 + 12 for one of base PL (with
such an overlap the field is afterwards read at another place, R181). -/
def Obligations.PutThenGet : Prop :=
  ∀ (f : Field) (s t u : State),
    let d := fieldDesc f
    let a := s.baseAddr d.base + d.off
    (d.base = .l4 ∨ d.base = .pl → 14 < a) →
    (d.base = .pl → ¬ (a ≤ s.baseAddr .l4 + 12 ∧ s.baseAddr .l4 + 12 < a + d.shape.bytesTouched)) →
    exec f.putInstr s = .next t → t.status = .ok → exec f.getInstr t = .next u →
    u.rdata = s.wdata ∧ u.status = .ok

/-- R190 to R194: the five derived quantities, each with the bytes it needs in frame and its range check. -/
def Obligations.DerivedQuantities : Prop :=
  ∀ s : State,
    let h := (s.byteAt 14).toNat % 16
    let l4 := 14 + 4 * h
    let d := (s.byteAt (l4 + 12)).toNat / 16
    let len := s.memRead 16 2
    (15 ≤ s.flen → exec .getLocL4 s = .next { s with rdata := BitVec.ofNat 48 l4, status := .ok }) ∧
    (s.flen < 15 → exec .getLocL4 s = .next { s with rdata := 0, status := .errBounds }) ∧
    (l4 + 13 ≤ s.flen → exec .getLocPl s = .next { s with rdata := BitVec.ofNat 48 (l4 + 4 * d), status := .ok }) ∧
    ((s.flen < 15 ∨ s.flen < l4 + 13) → exec .getLocPl s = .next { s with rdata := 0, status := .errBounds }) ∧
    (l4 + 13 ≤ s.flen → 4 * h + 4 * d ≤ len →
      exec .getLenTpl s = .next { s with rdata := BitVec.ofNat 48 (len - 4 * h - 4 * d), status := .ok }) ∧
    (l4 + 13 ≤ s.flen → len < 4 * h + 4 * d → exec .getLenTpl s = .next { s with rdata := 0, status := .errArg }) ∧
    ((s.flen < 18 ∨ s.flen < l4 + 13) → exec .getLenTpl s = .next { s with rdata := 0, status := .errBounds }) ∧
    (l4 + 6 ≤ s.flen → 8 ≤ s.memRead (l4 + 4) 2 →
      exec .getLenUdppl s = .next { s with rdata := BitVec.ofNat 48 (s.memRead (l4 + 4) 2 - 8), status := .ok }) ∧
    (l4 + 6 ≤ s.flen → s.memRead (l4 + 4) 2 < 8 →
      exec .getLenUdppl s = .next { s with rdata := 0, status := .errArg }) ∧
    ((s.flen < 15 ∨ s.flen < l4 + 6) → exec .getLenUdppl s = .next { s with rdata := 0, status := .errBounds }) ∧
    (18 ≤ s.flen → 4 * h + 8 ≤ len →
      exec .getLenIcmpdata s = .next { s with rdata := BitVec.ofNat 48 (len - 4 * h - 8), status := .ok }) ∧
    (18 ≤ s.flen → len < 4 * h + 8 → exec .getLenIcmpdata s = .next { s with rdata := 0, status := .errArg }) ∧
    (s.flen < 18 → exec .getLenIcmpdata s = .next { s with rdata := 0, status := .errBounds })

/-! ### CLS: the classifier -/

/-- R305 to R308: the four predicates that only compare fields, true exactly when every field they name is in frame and has
the value of the rule; they change nothing. -/
def Obligations.ComparingPredicates : Prop :=
  ∀ s : State,
    let l4 := 14 + 4 * ((s.byteAt 14).toNat % 16)
    exec .isIpUnicast s = .next
      { s with rdata := if 34 ≤ s.flen ∧ s.memRead 30 4 = s.localIp.toNat then 1 else 0, status := .ok } ∧
    exec .isArpReq s = .next
      { s with
        rdata := if 42 ≤ s.flen ∧ s.memRead 12 2 = 0x0806 ∧ s.memRead 38 4 = s.localIp.toNat ∧ s.memRead 20 2 = 1
          then 1 else 0,
        status := .ok } ∧
    exec .isTcp s = .next { s with rdata := if 24 ≤ s.flen ∧ s.byteAt 23 = 6 then 1 else 0, status := .ok } ∧
    exec .isPingReq s = .next
      { s with
        rdata := if 24 ≤ s.flen ∧ s.byteAt 23 = 1 ∧ l4 + 1 ≤ s.flen ∧ s.byteAt l4 = 8 then 1 else 0,
        status := .ok }

/-- R304, R326: IS_IP is true exactly when the type is IPv4 and the header, all of it in frame, sums to 0xFFFF; and what it
leaves in the accumulator in each case of the table. -/
def Obligations.IsIpVerifiesHeader : Prop :=
  ∀ s : State,
    let h := (s.byteAt 14).toNat % 16
    let f := onesFold (s.frameSum 14 (4 * h))
    ((s.flen < 14 ∨ s.memRead 12 2 ≠ 0x0800 ∨ s.flen = 14) →
      exec .isIp s = .next { s with rdata := 0, status := .ok }) ∧
    (15 ≤ s.flen → s.memRead 12 2 = 0x0800 → s.flen < 14 + 4 * h →
      exec .isIp s = .next { s with sum := 0, phase := false, rdata := 0, status := .ok }) ∧
    (15 ≤ s.flen → s.memRead 12 2 = 0x0800 → 14 + 4 * h ≤ s.flen →
      exec .isIp s = .next
        { s with sum := BitVec.ofNat 32 f, phase := false, rdata := if f = 65535 then 1 else 0, status := .ok })

/-- R309, R326: IS_UDP_VALID is true exactly when the protocol is UDP and the pseudo-header with the whole datagram, in frame,
sums to 0xFFFF; and what it leaves in the accumulator in each case of the table. -/
def Obligations.IsUdpValidVerifiesDatagram : Prop :=
  ∀ s : State,
    let l4 := 14 + 4 * ((s.byteAt 14).toNat % 16)
    let u := s.memRead (l4 + 4) 2
    let pseudo := s.frameSum 26 8 + 0x11 + u
    let f := onesFold (pseudo + s.frameSum l4 u)
    ((s.flen < 24 ∨ s.byteAt 23 ≠ 17 ∨ s.flen < l4 + 6 ∨ u < 8) →
      exec .isUdpValid s = .next { s with rdata := 0, status := .ok }) ∧
    (24 ≤ s.flen → s.byteAt 23 = 17 → l4 + 6 ≤ s.flen → 8 ≤ u → s.flen < 34 →
      exec .isUdpValid s = .next { s with sum := 0, phase := false, rdata := 0, status := .ok }) ∧
    (34 ≤ s.flen → s.byteAt 23 = 17 → l4 + 6 ≤ s.flen → 8 ≤ u → s.flen < l4 + u →
      exec .isUdpValid s = .next
        { s with sum := BitVec.ofNat 32 pseudo, phase := false, rdata := 0, status := .ok }) ∧
    (34 ≤ s.flen → s.byteAt 23 = 17 → 8 ≤ u → l4 + u ≤ s.flen →
      exec .isUdpValid s = .next
        { s with
          sum := BitVec.ofNat 32 f, phase := decide (u % 2 = 1), rdata := if f = 65535 then 1 else 0, status := .ok })

/-- R310 to R313, R320: a flag predicate is true exactly when the flag byte, in frame, is its own value and the payload length
is not negative; it then writes the event latch, all five registers of it, and otherwise nothing. -/
def Obligations.FlagPredicatesLatch : Prop :=
  ∀ (i : Instr) (v : Nat) (s : State),
    (i, v) ∈ [(Instr.isSynack, 0x12), (.isAck, 0x10), (.isPshack, 0x18), (.isFinack, 0x11)] →
    let h := (s.byteAt 14).toNat % 16
    let l4 := 14 + 4 * h
    let d := (s.byteAt (l4 + 12)).toNat / 16
    let true' := l4 + 14 ≤ s.flen ∧ (s.byteAt (l4 + 13)).toNat = v ∧ 4 * h + 4 * d ≤ s.memRead 16 2
    (true' →
      exec i s = .next
        { s with
          peerSeq := BitVec.ofNat 32 (s.memRead (l4 + 4) 4), peerAck := BitVec.ofNat 32 (s.memRead (l4 + 8) 4),
          consumedLen := BitVec.ofNat 32 (s.memRead 16 2 - 4 * h - 4 * d + if v = 0x12 ∨ v = 0x11 then 1 else 0),
          lastSport := BitVec.ofNat 16 (s.memRead l4 2), lastDport := BitVec.ofNat 16 (s.memRead (l4 + 2) 2),
          rdata := 1, status := .ok }) ∧
    (¬ true' → exec i s = .next { s with rdata := 0, status := .ok })

/-- R314 to R317, R320: an MQTT reply predicate is true exactly when there is a payload, its first byte is in frame and has the
predicate's own value, and the flag byte is in frame; it then writes the event latch, and otherwise nothing. -/
def Obligations.MqttPredicatesLatch : Prop :=
  ∀ (i : Instr) (v : Nat) (s : State),
    (i, v) ∈ [(Instr.isConnack, 0x20), (.isPubsuback, 0x90), (.isUnsuback, 0xB0), (.isPingresp, 0xD0)] →
    let h := (s.byteAt 14).toNat % 16
    let l4 := 14 + 4 * h
    let d := (s.byteAt (l4 + 12)).toNat / 16
    let flags := s.byteAt (l4 + 13)
    let true' := l4 + 14 ≤ s.flen ∧ 4 * h + 4 * d + 1 ≤ s.memRead 16 2 ∧ l4 + 4 * d + 1 ≤ s.flen ∧
      (s.byteAt (l4 + 4 * d)).toNat = v
    (true' →
      exec i s = .next
        { s with
          peerSeq := BitVec.ofNat 32 (s.memRead (l4 + 4) 4), peerAck := BitVec.ofNat 32 (s.memRead (l4 + 8) 4),
          consumedLen := BitVec.ofNat 32
            (s.memRead 16 2 - 4 * h - 4 * d + if flags = 0x12 ∨ flags = 0x11 then 1 else 0),
          lastSport := BitVec.ofNat 16 (s.memRead l4 2), lastDport := BitVec.ofNat 16 (s.memRead (l4 + 2) 2),
          rdata := 1, status := .ok }) ∧
    (¬ true' → exec i s = .next { s with rdata := 0, status := .ok })

/-- R318, R324, R326: CLASSIFY stores, bit by bit, what each predicate answers on the frame, gated as the table says; it sets
`cls_fresh`, returns `cls`, writes the latch only when one of bits 6 to 13 is 1, and leaves the accumulator as IS_IP leaves
it, or, where bit 2 is 1, as IS_UDP_VALID after IS_IP leaves it; it changes nothing else. -/
def Obligations.ClassifyGates : Prop :=
  ∀ s : State, ∃ t, exec .classify s = .next t ∧
    t = { s with
          sum := t.sum, phase := t.phase, peerSeq := t.peerSeq, peerAck := t.peerAck, consumedLen := t.consumedLen,
          lastSport := t.lastSport, lastDport := t.lastDport, cls := t.cls, clsFresh := true,
          rdata := t.cls.setWidth 48, status := .ok } ∧
    t.cls.getLsbD 0 = answersOne .isArpReq s ∧
    t.cls.getLsbD 1 = answersOne .isIp s ∧
    t.cls.getLsbD 2 = (t.cls.getLsbD 1 && answersOne .isIpUnicast s) ∧
    t.cls.getLsbD 3 = (t.cls.getLsbD 2 && answersOne .isPingReq s) ∧
    t.cls.getLsbD 4 = (t.cls.getLsbD 2 && answersOne .isUdpValid s) ∧
    t.cls.getLsbD 5 = (t.cls.getLsbD 2 && answersOne .isTcp s) ∧
    (∀ k i, eventCommands[k]? = some i → t.cls.getLsbD (6 + k) = (t.cls.getLsbD 5 && answersOne i s)) ∧
    ((∀ k, k < 8 → t.cls.getLsbD (6 + k) = false) →
      t.peerSeq = s.peerSeq ∧ t.peerAck = s.peerAck ∧ t.consumedLen = s.consumedLen ∧
      t.lastSport = s.lastSport ∧ t.lastDport = s.lastDport) ∧
    (∀ a, exec .isIp s = .next a →
      (t.cls.getLsbD 2 = false → t.sum = a.sum ∧ t.phase = a.phase) ∧
      (t.cls.getLsbD 2 = true → ∀ b, exec .isUdpValid a = .next b → t.sum = b.sum ∧ t.phase = b.phase)) ∧
    ∀ k i u, eventCommands[k]? = some i → t.cls.getLsbD (6 + k) = true → exec i s = .next u →
      t.peerSeq = u.peerSeq ∧ t.peerAck = u.peerAck ∧ t.consumedLen = u.consumedLen ∧
      t.lastSport = u.lastSport ∧ t.lastDport = u.lastDport

/-- R318, R452: of the classification CLASSIFY stores, bits 0, 3, 4 and 5 exclude each other pairwise, bit 0 excludes bit 1,
and at most one of bits 6 to 9 and at most one of bits 10 to 13 is 1. -/
def Obligations.ClassifyExclusive : Prop :=
  ∀ (s t : State), exec .classify s = .next t →
    (∀ j k, j ∈ [0, 3, 4, 5] → k ∈ [0, 3, 4, 5] → t.cls.getLsbD j = true → t.cls.getLsbD k = true → j = k) ∧
    ¬ (t.cls.getLsbD 0 = true ∧ t.cls.getLsbD 1 = true) ∧
    (∀ j k, j ∈ [6, 7, 8, 9] → k ∈ [6, 7, 8, 9] → t.cls.getLsbD j = true → t.cls.getLsbD k = true → j = k) ∧
    ∀ j k, j ∈ [10, 11, 12, 13] → k ∈ [10, 11, 12, 13] → t.cls.getLsbD j = true → t.cls.getLsbD k = true → j = k

/-- R322: CLASSIFY and every predicate, executed twice with nothing between, leave after the second what they left after the
first: the same result, the same latch and the same accumulator. -/
def Obligations.ClassifiersIdempotent : Prop :=
  ∀ (i : Instr) (s t : State), i ∈ Instr.classify :: predicateCommands → exec i s = .next t → exec i t = .next t

/-- R300, R73: what a classifier answers is a function of the frame, its length and `local_ip`: not of the bytes beyond the
frame, and not of any other register. -/
def Obligations.ClassifiersReadFrameOnly : Prop :=
  ∀ (i : Instr) (s s' t t' : State), i ∈ Instr.classify :: predicateCommands →
    s.frameLen = s'.frameLen → s.localIp = s'.localIp → (∀ a, a < s.flen → s.byteAt a = s'.byteAt a) →
    exec i s = .next t → exec i s' = .next t' → t.rdata = t'.rdata ∧ t.status = t'.status

/-! ### Builders -/

/-- R344: BLD_ARP_REPLY of a frame of at least 42 bytes; a shorter frame is `ERR_BOUNDS`. -/
def Obligations.ArpReplyBuilds : Prop :=
  ∀ s : State,
    (42 ≤ s.flen → ∃ t, exec .bldArpReply s = .next t ∧
      t = { s with buf := t.buf, frameLen := 42, cls := 0, clsFresh := false, rdata := 42, status := .ok } ∧
      t.memRead 0 6 = s.memRead 6 6 ∧ t.memRead 6 6 = s.localMac.toNat ∧ t.memRead 20 2 = 2 ∧
      t.memRead 22 6 = s.localMac.toNat ∧ t.memRead 28 4 = s.memRead 38 4 ∧
      t.memRead 32 6 = s.memRead 22 6 ∧ t.memRead 38 4 = s.memRead 28 4 ∧
      ∀ a, (12 ≤ a ∧ a < 20) ∨ 42 ≤ a → t.byteAt a = s.byteAt a) ∧
    (s.flen < 42 → exec .bldArpReply s = .next { s with rdata := 0, status := .errBounds })

/-- R345: BLD_ARP_REQ of a 32-bit address; a wider operand is `ERR_ARG`. It reads nothing of the old frame. -/
def Obligations.ArpRequestBuilds : Prop :=
  ∀ s : State,
    (s.wdata.toNat < 2 ^ 32 → ∃ t, exec .bldArpReq s = .next t ∧
      t = { s with buf := t.buf, frameLen := 42, cls := 0, clsFresh := false, rdata := 42, status := .ok } ∧
      t.memRead 0 6 = 0xFFFFFFFFFFFF ∧ t.memRead 6 6 = s.localMac.toNat ∧ t.memRead 12 2 = 0x0806 ∧
      t.memRead 14 2 = 1 ∧ t.memRead 16 2 = 0x0800 ∧ t.memRead 18 1 = 6 ∧ t.memRead 19 1 = 4 ∧ t.memRead 20 2 = 1 ∧
      t.memRead 22 6 = s.localMac.toNat ∧ t.memRead 28 4 = s.localIp.toNat ∧ t.memRead 32 6 = 0 ∧
      t.memRead 38 4 = s.wdata.toNat ∧ ∀ a, 42 ≤ a → t.byteAt a = s.byteAt a) ∧
    (2 ^ 32 ≤ s.wdata.toNat → exec .bldArpReq s = .next { s with rdata := 0, status := .errArg })

/-- R346: BLD_ICMP_REPLY of a frame whose IP header has at least its 20 bytes: addresses swapped, type 0, both checksums
computed over the bytes of the rule, every other byte as it was, the accumulator as the ICMP sum leaves it. A frame that
is too short for what its lengths say is `ERR_BOUNDS`, whatever its header length. -/
def Obligations.IcmpReplyBuilds : Prop :=
  ∀ s : State,
    let h := (s.byteAt 14).toNat % 16
    let l4 := 14 + 4 * h
    let n := s.memRead 16 2 - 4 * h
    let bad := s.flen < 34 ∨ s.memRead 16 2 < 4 * h + 8 ∨ s.flen < l4 + n
    (¬ bad → 5 ≤ h → ∃ t, exec .bldIcmpReply s = .next t ∧
      t = { s with
            buf := t.buf, frameLen := BitVec.ofNat 16 (14 + s.memRead 16 2), cls := 0, clsFresh := false,
            sum := BitVec.ofNat 32 (onesFold (t.frameSum l4 2 + t.frameSum (l4 + 4) (n - 4))),
            phase := decide (n % 2 = 1), rdata := BitVec.ofNat 48 (14 + s.memRead 16 2), status := .ok } ∧
      t.memRead 0 6 = s.memRead 6 6 ∧ t.memRead 6 6 = s.memRead 0 6 ∧
      t.memRead 26 4 = s.memRead 30 4 ∧ t.memRead 30 4 = s.memRead 26 4 ∧ t.byteAt l4 = 0 ∧
      t.memRead 24 2 = 65535 - onesFold (t.frameSum 14 10 + t.frameSum 26 (4 * h - 12)) ∧
      t.memRead (l4 + 2) 2 = 65535 - onesFold (t.frameSum l4 2 + t.frameSum (l4 + 4) (n - 4)) ∧
      ∀ a, (12 ≤ a ∧ a < 24) ∨ (34 ≤ a ∧ a ≠ l4 ∧ a ≠ l4 + 2 ∧ a ≠ l4 + 3) → t.byteAt a = s.byteAt a) ∧
    (bad → exec .bldIcmpReply s = .next { s with rdata := 0, status := .errBounds })

/-- R347: BLD_UDP_REPLY with the payload the stream port carries, of a frame whose IP header has at least its 20 bytes:
addresses and ports swapped, both lengths and both checksums as the rule gives them, the payload copied, every other byte as
it was, the accumulator as the UDP sum leaves it. A frame too short, or a reply too long, is `ERR_BOUNDS`. -/
def Obligations.UdpReplyBuilds : Prop :=
  ∀ (s : State) (p : Nat),
    let h := (s.byteAt 14).toNat % 16
    let l4 := 14 + 4 * h
    let bad := s.flen < 34 ∨ s.flen < l4 + 8 ∨ 1522 < l4 + 8 + p
    (¬ bad → 5 ≤ h → s.s0.length = p → ∃ t, exec (.bldUdpReply p) s = .next t ∧
      let f := onesFold (t.frameSum 26 8 + 0x11 + (8 + p) + t.frameSum l4 6 + t.frameSum (l4 + 8) p)
      t = { s with
            buf := t.buf, frameLen := BitVec.ofNat 16 (l4 + 8 + p), cls := 0, clsFresh := false,
            sum := BitVec.ofNat 32 f, phase := decide (p % 2 = 1), rdata := BitVec.ofNat 48 (l4 + 8 + p), status := .ok } ∧
      t.memRead 0 6 = s.memRead 6 6 ∧ t.memRead 6 6 = s.memRead 0 6 ∧
      t.memRead 26 4 = s.memRead 30 4 ∧ t.memRead 30 4 = s.memRead 26 4 ∧
      t.memRead l4 2 = s.memRead (l4 + 2) 2 ∧ t.memRead (l4 + 2) 2 = s.memRead l4 2 ∧
      t.memRead (l4 + 4) 2 = 8 + p ∧ t.memRead 16 2 = 4 * h + 8 + p ∧
      (∀ k, k < p → s.s0[k]? = some (t.byteAt (l4 + 8 + k))) ∧
      t.memRead 24 2 = 65535 - onesFold (t.frameSum 14 10 + t.frameSum 26 (4 * h - 12)) ∧
      t.memRead (l4 + 6) 2 = 65535 - f ∧
      ∀ a, (12 ≤ a ∧ a < 16) ∨ (18 ≤ a ∧ a < 24) ∨ (34 ≤ a ∧ a < l4) ∨ l4 + 8 + p ≤ a → t.byteAt a = s.byteAt a) ∧
    (bad → exec (.bldUdpReply p) s = .next { s with rdata := 0, status := .errBounds })

/-- R350 to R353: BLD_TCP_SYN emits, from the port the environment draws in 1024 to 49151, a segment with the SYN flag alone,
numbers 0 and the MSS option; BLD_TCP_ACK emits a segment with the ACK flag alone that answers the latched one. Each always
completes. -/
def Obligations.TcpBuildersEmit : Prop :=
  ∀ s : State,
    (∃ (t : State) (p : BitVec 16), exec .bldTcpSyn s = .next t ∧
      p.toNat = 1024 + s.env.portDraw.val ∧ 1024 ≤ p.toNat ∧ p.toNat ≤ 49151 ∧
      t = { s with
            buf := t.buf, frameLen := 58, cls := 0, clsFresh := false, sum := t.sum, phase := t.phase,
            localPort := p, rdata := 58, status := .ok } ∧
      t.Carries s
        { flags := 0x02, sport := p, dport := s.params.peerPort, seq := 0, ack := 0,
          opts := [0x02, 0x04, BitVec.ofNat 8 (s.params.mssValue.toNat / 256), BitVec.ofNat 8 s.params.mssValue.toNat],
          payload := [] }) ∧
    ∃ t : State, exec .bldTcpAck s = .next t ∧
      t = { s with
            buf := t.buf, frameLen := 54, cls := 0, clsFresh := false, sum := t.sum, phase := t.phase,
            rdata := 54, status := .ok } ∧
      t.Carries s
        { flags := 0x10, sport := s.lastDport, dport := s.lastSport, seq := s.peerAck, ack := s.peerSeq + s.consumedLen,
          opts := [], payload := [] }

/-- R354 to R360: each MQTT builder whose variable part has at most 127 bytes emits, with the PSH and ACK flags, the control
byte, the length of the variable part and the variable part, answering the latched segment; a longer variable part is
`ERR_ARG`. -/
def Obligations.MqttBuildersEmit : Prop :=
  ∀ (s : State) (i : Instr) (control : Byte) (body : List Byte),
    (i, control, body) ∈
      [(Instr.bldMqttConnect, 0x10,
         ([0x00, 0x04, 0x4D, 0x51, 0x54, 0x54, 0x04, s.params.connectFlags] : List Byte) ++
           beBytes 2 s.params.keepAlive.toNat ++ beBytes 2 s.params.clientId.length ++ s.params.clientId),
       (.bldMqttPublish s.s0.length s.s1.length, 0x30, beBytes 2 s.s0.length ++ s.s0 ++ s.s1),
       (.bldMqttSubscribe s.s0.length, 0x82,
         beBytes 2 s.params.msgId.toNat ++ beBytes 2 s.s0.length ++ s.s0 ++ [s.params.subQos]),
       (.bldMqttUnsubscribe s.s0.length, 0xA2, beBytes 2 s.params.msgId.toNat ++ beBytes 2 s.s0.length ++ s.s0),
       (.bldMqttDisconnect, 0xE0, []),
       (.bldMqttPingreq, 0xC0, [])] →
    (body.length ≤ 127 → ∃ t : State, exec i s = .next t ∧
      t = { s with
            buf := t.buf, frameLen := BitVec.ofNat 16 (56 + body.length), cls := 0, clsFresh := false, sum := t.sum,
            phase := t.phase, rdata := BitVec.ofNat 48 (56 + body.length), status := .ok } ∧
      t.Carries s
        { flags := 0x18, sport := s.lastDport, dport := s.lastSport, seq := s.peerAck, ack := s.peerSeq + s.consumedLen,
          opts := [], payload := control :: BitVec.ofNat 8 body.length :: body }) ∧
    (127 < body.length → exec i s = .next { s with rdata := 0, status := .errArg })

/-- R340, R341: every IP frame that a builder has built passes IS_IP, and its IP total length is the frame length less the
Ethernet header; for the two responders, when the IP header has at least its 20 bytes. -/
def Obligations.BuiltFramesPassIsIp : Prop :=
  ∀ (i : Instr) (s t u : State), isIpBuilder i →
    (i = .bldIcmpReply ∨ (∃ p, i = .bldUdpReply p) → 5 ≤ (s.byteAt 14).toNat % 16 ∧ s.memRead 12 2 = 0x0800) →
    exec i s = .next t → t.status = .ok → exec .isIp t = .next u →
    u.rdata = 1 ∧ t.flen = 14 + t.memRead 16 2

/-! ### SSM: the session -/

/-- R384: REQ takes a request when none is pending, else ignores it; the code 0 is `ERR_ARG`. -/
def Obligations.RequestTaken : Prop :=
  ∀ (s : State) (k : BitVec 2),
    (k ≠ 0 → s.req = 0 → exec (.req k) s = .next { s with req := k, rdata := 1, status := .ok }) ∧
    (k ≠ 0 → s.req ≠ 0 → exec (.req k) s = .next { s with rdata := 0, status := .ok }) ∧
    (k = 0 → exec (.req k) s = .next { s with rdata := 0, status := .errArg })

/-- R398: every row of the transition table. R385: STEP clears `cls_fresh`, in every row, and changes nothing else than the row
says. Both rest on `PROTOCOL_VIOLATION` being false (R401): that it is false is log 6 (DEDUCED, from U9 and D18). -/
def Obligations.StepTable : Prop :=
  ∀ (s : State) (tw : Bool),
    let goes := fun (state : BitVec 4) (sel : Data) =>
      exec (.step tw) s = .next { s with state := state, clsFresh := false, rdata := sel, status := .ok }
    let trigger := fun (k : Nat) => s.clsFresh = true ∧ s.cls.getLsbD k = true
    (s.req ≠ 0 →
      (s.state = 0 → goes 1 1) ∧
      (s.state = 1 → trigger 6 → goes 3 2) ∧ (s.state = 1 → ¬ trigger 6 → goes 1 0) ∧
      (s.state = 2 → goes 3 2) ∧
      (s.state = 3 → goes 4 3) ∧
      (s.state = 4 → trigger 10 → goes 5 (if s.req = 1 then 4 else if s.req = 2 then 5 else 6)) ∧
      (s.state = 4 → ¬ trigger 10 → goes 4 0) ∧
      (s.state = 5 → trigger 7 → goes 6 7) ∧ (s.state = 5 → ¬ trigger 7 → goes 5 0) ∧
      (s.state = 6 → trigger 9 → goes 7 0) ∧ (s.state = 6 → ¬ trigger 9 → goes 6 0) ∧
      (s.state = 7 → goes 8 2) ∧
      (s.state = 8 → tw = true → exec (.step tw) s = .next
        { s with state := 0, req := 0, clsFresh := false, rdata := 0, status := .ok }) ∧
      (s.state = 8 → tw = false → goes 8 0)) ∧
    (s.req = 0 → s.state.toNat ≤ 8 → goes s.state 0)

/-- R395: STEP in a reserved state code is `ERR_STATE` with no effect, not even on `cls_fresh`; SSM_GET returns the code. -/
def Obligations.ReservedStateFaults : Prop :=
  ∀ (s : State) (tw : Bool), 8 < s.state.toNat →
    exec (.step tw) s = .next { s with rdata := 0, status := .errState } ∧
    ∃ t, exec .ssmGet s = .next t ∧ t.rdata.toNat % 16 = s.state.toNat ∧ t.status = .ok

/-- R402, R480: a session that waits for a frame is stalled: whatever commands come, as long as none is a CLASSIFY, its state
and its request stay. -/
def Obligations.StallWithoutClassify : Prop :=
  ∀ (is : List Instr) (s t : State), s.state ∈ [(1 : BitVec 4), 4, 5, 6] → s.req ≠ 0 → s.clsFresh = false →
    Instr.classify ∉ is → runAll is s = .next t → t.state = s.state ∧ t.req = s.req

/-- R403: the progression of a session: from Closed with a request, the eight transitions in order, each with the selection of
the table, when the four trigger frames have been classified in order. Between the steps anything may happen that keeps the
state and the request. -/
def Obligations.SessionProgression : Prop :=
  ∀ (k : BitVec 2) (a0 b0 b1 b2 b3 b4 b5 b6 b7 b8 a1 a2 a3 a4 a5 a6 a7 a8 : State) (tw : Bool),
    let kept := fun (x y : State) => y.state = x.state ∧ y.req = x.req
    let fresh := fun (x : State) (j : Nat) => x.clsFresh = true ∧ x.cls.getLsbD j = true
    k ≠ 0 → a0.state = 0 → a0.req = 0 → exec (.req k) a0 = .next b0 →
    kept b0 a1 → exec (.step tw) a1 = .next b1 →
    kept b1 a2 → fresh a2 6 → exec (.step tw) a2 = .next b2 →
    kept b2 a3 → exec (.step tw) a3 = .next b3 →
    kept b3 a4 → fresh a4 10 → exec (.step tw) a4 = .next b4 →
    kept b4 a5 → fresh a5 7 → exec (.step tw) a5 = .next b5 →
    kept b5 a6 → fresh a6 9 → exec (.step tw) a6 = .next b6 →
    kept b6 a7 → exec (.step tw) a7 = .next b7 →
    kept b7 a8 → exec (.step true) a8 = .next b8 →
    (b1.rdata, b1.state) = (1, 1) ∧ (b2.rdata, b2.state) = (2, 3) ∧ (b3.rdata, b3.state) = (3, 4) ∧
    (b4.rdata.toNat, b4.state) = (3 + k.toNat, 5) ∧ (b5.rdata, b5.state) = (7, 6) ∧ (b6.rdata, b6.state) = (0, 7) ∧
    (b7.rdata, b7.state) = (2, 8) ∧ (b8.rdata, b8.state) = (0, 0) ∧ b8.req = 0

/-- R400: the builder of each selection. -/
def Obligations.SelectedBuilders : Prop :=
  ∀ n m : Nat,
    selectedBuilder n m 0 = none ∧ selectedBuilder n m 1 = some .bldTcpSyn ∧ selectedBuilder n m 2 = some .bldTcpAck ∧
    selectedBuilder n m 3 = some .bldMqttConnect ∧ selectedBuilder n m 4 = some (.bldMqttPublish n m) ∧
    selectedBuilder n m 5 = some (.bldMqttSubscribe n) ∧ selectedBuilder n m 6 = some (.bldMqttUnsubscribe n) ∧
    selectedBuilder n m 7 = some .bldMqttDisconnect

/-! ### Host, buffer and configuration commands -/

/-- R430, R79: RX_POLL without a frame changes nothing and reports the overflow in bit 16; with a frame it stores at most
`min(len, BUF_CAP)` bytes of it, sets `frame_len` to their number, forgets the classification and leaves every byte above. -/
def Obligations.RxPollReceives : Prop :=
  ∀ (s : State) (len : Nat),
    let ovf := if s.env.rxOvf then 65536 else 0
    (s.env.rxFrame = none →
      exec (.rxPoll len) s = .next { s with rdata := BitVec.ofNat 48 ovf, status := .ok }) ∧
    ∀ f, s.env.rxFrame = some f →
      let n := min f.length (min len 1522)
      ∃ t, exec (.rxPoll len) s = .next t ∧
        t = { s with
              buf := t.buf, frameLen := BitVec.ofNat 16 n, cls := 0, clsFresh := false,
              rdata := BitVec.ofNat 48 (ovf + n), status := .ok } ∧
        (∀ k, k < n → f[k]? = some (t.byteAt k)) ∧ ∀ a, n ≤ a → t.byteAt a = s.byteAt a

/-- R431: TX of an empty frame is `ERR_ARG`; else the frame is transmitted, the transport's success bit is the result, and no
register and no byte changes. -/
def Obligations.TxTransmits : Prop :=
  ∀ s : State,
    (s.flen = 0 → exec .tx s = .next { s with rdata := 0, status := .errArg }) ∧
    (s.flen ≠ 0 →
      exec .tx s = .next
        { s with
          txLog := s.txLog ++ [(List.range s.flen).map s.byteAt], rdata := if s.env.txOk then 1 else 0, status := .ok })

/-- R432 to R435: the raw buffer commands: one byte read or written, bounded by `BUF_CAP` only; `frame_len` set, at most
`BUF_CAP`, or returned. -/
def Obligations.BufferCommands : Prop :=
  ∀ (s : State) (n : Nat) (b : Byte),
    (n < 1522 → exec (.bufRd n) s = .next { s with rdata := BitVec.ofNat 48 (s.byteAt n).toNat, status := .ok }) ∧
    (1522 ≤ n → exec (.bufRd n) s = .next { s with rdata := 0, status := .errBounds }) ∧
    (n < 1522 → ∃ t, exec (.bufWr n b) s = .next t ∧
      t = { s with buf := t.buf, cls := 0, clsFresh := false, rdata := 0, status := .ok } ∧
      ∀ a, t.byteAt a = if a = n then b else s.byteAt a) ∧
    (1522 ≤ n → exec (.bufWr n b) s = .next { s with rdata := 0, status := .errBounds }) ∧
    (n ≤ 1522 → exec (.bufSetlen n) s = .next
      { s with frameLen := BitVec.ofNat 16 n, cls := 0, clsFresh := false, rdata := 0, status := .ok }) ∧
    (1522 < n → exec (.bufSetlen n) s = .next { s with rdata := 0, status := .errArg }) ∧
    exec .bufGetlen s = .next { s with rdata := BitVec.ofNat 48 s.flen, status := .ok }

/-- R441, R443, R445, R447, R449: what each CFG_SET command writes; an operand of more than 32 bits for a 32-bit register is
`ERR_ARG`. -/
def Obligations.ConfigWrites : Prop :=
  ∀ s : State,
    let v := BitVec.ofNat 32 s.wdata.toNat
    exec .cfgSetMac s = .next { s with localMac := s.wdata, rdata := 0, status := .ok } ∧
    (s.wdata.toNat < 2 ^ 32 →
      exec .cfgSetIp s = .next { s with localIp := v, rdata := 0, status := .ok } ∧
      exec .cfgSetSn s = .next { s with subnetMask := v, rdata := 0, status := .ok } ∧
      exec .cfgSetGw s = .next { s with gateway := v, rdata := 0, status := .ok }) ∧
    (2 ^ 32 ≤ s.wdata.toNat →
      exec .cfgSetIp s = .next { s with rdata := 0, status := .errArg } ∧
      exec .cfgSetSn s = .next { s with rdata := 0, status := .errArg } ∧
      exec .cfgSetGw s = .next { s with rdata := 0, status := .errArg }) ∧
    ∀ k, exec (.cfgSetDhcp k) s = .next { s with dhcpEn := k, rdata := 0, status := .ok }

/-- R440, R442, R444, R446, R448, R319, R396, R397: every command that only returns a register, and which one. -/
def Obligations.RegisterReads : Prop :=
  ∀ s : State,
    let returns := fun (i : Instr) (v : Nat) => exec i s = .next { s with rdata := BitVec.ofNat 48 v, status := .ok }
    returns .cfgGetMac s.localMac.toNat ∧ returns .cfgGetIp s.localIp.toNat ∧ returns .cfgGetSn s.subnetMask.toNat ∧
    returns .cfgGetGw s.gateway.toNat ∧ returns .cfgGetDhcp (if s.dhcpEn then 1 else 0) ∧
    returns .clsGet ((if s.clsFresh then 16384 else 0) + s.cls.toNat) ∧
    returns .ssmGet (16 * s.req.toNat + s.state.toNat) ∧ returns .ssmGetPort s.localPort.toNat

/-- R45: a CFG_GET after the CFG_SET of the same register that ended well returns the value written, for each of the five
configuration registers. -/
def Obligations.ConfigReadsBack : Prop :=
  (∀ (s t u : State) (set get : Instr),
    (set, get) ∈ [(Instr.cfgSetMac, Instr.cfgGetMac), (.cfgSetIp, .cfgGetIp), (.cfgSetSn, .cfgGetSn),
      (.cfgSetGw, .cfgGetGw)] →
    exec set s = .next t → t.status = .ok → exec get t = .next u → u.rdata = s.wdata ∧ u.status = .ok) ∧
  ∀ (s t u : State) (k : Bool), exec (.cfgSetDhcp k) s = .next t → exec .cfgGetDhcp t = .next u →
    u.rdata = (if k then 1 else 0) ∧ t.status = .ok ∧ u.status = .ok

/-! ### Wire discriminators -/

/-- The model's own meaning of a wire row (log 9, DESIGN CHOICE): 1 exactly when its field (R110, and R108 for CONNECT) is in
frame and holds its value; nothing else changes. -/
def Obligations.WireRowsCompare : Prop :=
  ∀ (s : State) (i : Instr) (f : Field) (v : Nat),
    (i, f, v) ∈
      ([(Instr.wireEthType0800, Field.ethType, 0x0800), (.wireEthType0806, .ethType, 0x0806),
        (.wireArpOper0001, .arpOper, 1), (.wireArpOper0002, .arpOper, 2), (.wireIpProto01, .ipProto, 1),
        (.wireIpProto06, .ipProto, 6), (.wireIpProto11, .ipProto, 17), (.wireIcmpType08, .icmpType, 8),
        (.wireIcmpType00, .icmpType, 0), (.wireTcpFlags12, .tcpFlags, 0x12), (.wireTcpFlags10, .tcpFlags, 0x10),
        (.wireTcpFlags18, .tcpFlags, 0x18), (.wireTcpFlags11, .tcpFlags, 0x11), (.wireTcpFlags02, .tcpFlags, 0x02)] ++
       [(.wireMqttCtrl20, .mqttCtrl, 0x20), (.wireMqttCtrl90, .mqttCtrl, 0x90), (.wireMqttCtrlB0, .mqttCtrl, 0xB0),
        (.wireMqttCtrlD0, .mqttCtrl, 0xD0), (.wireMqttCtrl10, .mqttCtrl, 0x10), (.wireMqttCtrl30, .mqttCtrl, 0x30),
        (.wireMqttCtrl82, .mqttCtrl, 0x82), (.wireMqttCtrlA2, .mqttCtrl, 0xA2), (.wireMqttCtrlE0, .mqttCtrl, 0xE0),
        (.wireMqttCtrlC0, .mqttCtrl, 0xC0)]) →
    let d := fieldDesc f
    let a := s.baseAddr d.base + d.off
    exec i s = .next
      { s with
        rdata := if s.baseInFrame d.base = true ∧ a + d.shape.bytesTouched ≤ s.flen ∧
            s.memRead a d.shape.bytesTouched = v then 1 else 0,
        status := .ok }
end

