-- ==== Sys2Proof/Laws/State.lean ====
section
/-! SUPPORT. What every named update of the state does to every field: one lemma per field per update. -/

namespace Sys2Proof.Machine

/-! ### A command that ends well (`State.done`) -/

@[simp] theorem State.buf_done (v : Data) (s : State) : (s.done v).buf = s.buf := rfl
@[simp] theorem State.sum_done (v : Data) (s : State) : (s.done v).sum = s.sum := rfl
@[simp] theorem State.phase_done (v : Data) (s : State) : (s.done v).phase = s.phase := rfl
@[simp] theorem State.frameLen_done (v : Data) (s : State) : (s.done v).frameLen = s.frameLen := rfl
@[simp] theorem State.cls_done (v : Data) (s : State) : (s.done v).cls = s.cls := rfl
@[simp] theorem State.clsFresh_done (v : Data) (s : State) : (s.done v).clsFresh = s.clsFresh := rfl
@[simp] theorem State.state_done (v : Data) (s : State) : (s.done v).state = s.state := rfl
@[simp] theorem State.req_done (v : Data) (s : State) : (s.done v).req = s.req := rfl
@[simp] theorem State.localPort_done (v : Data) (s : State) : (s.done v).localPort = s.localPort := rfl
@[simp] theorem State.peerSeq_done (v : Data) (s : State) : (s.done v).peerSeq = s.peerSeq := rfl
@[simp] theorem State.peerAck_done (v : Data) (s : State) : (s.done v).peerAck = s.peerAck := rfl
@[simp] theorem State.consumedLen_done (v : Data) (s : State) : (s.done v).consumedLen = s.consumedLen := rfl
@[simp] theorem State.lastSport_done (v : Data) (s : State) : (s.done v).lastSport = s.lastSport := rfl
@[simp] theorem State.lastDport_done (v : Data) (s : State) : (s.done v).lastDport = s.lastDport := rfl
@[simp] theorem State.localMac_done (v : Data) (s : State) : (s.done v).localMac = s.localMac := rfl
@[simp] theorem State.localIp_done (v : Data) (s : State) : (s.done v).localIp = s.localIp := rfl
@[simp] theorem State.subnetMask_done (v : Data) (s : State) : (s.done v).subnetMask = s.subnetMask := rfl
@[simp] theorem State.gateway_done (v : Data) (s : State) : (s.done v).gateway = s.gateway := rfl
@[simp] theorem State.dhcpEn_done (v : Data) (s : State) : (s.done v).dhcpEn = s.dhcpEn := rfl
@[simp] theorem State.rdata_done (v : Data) (s : State) : (s.done v).rdata = v := rfl
@[simp] theorem State.status_done (v : Data) (s : State) : (s.done v).status = .ok := rfl
@[simp] theorem State.wdata_done (v : Data) (s : State) : (s.done v).wdata = s.wdata := rfl
@[simp] theorem State.s0_done (v : Data) (s : State) : (s.done v).s0 = s.s0 := rfl
@[simp] theorem State.s1_done (v : Data) (s : State) : (s.done v).s1 = s.s1 := rfl
@[simp] theorem State.env_done (v : Data) (s : State) : (s.done v).env = s.env := rfl
@[simp] theorem State.pending_done (v : Data) (s : State) : (s.done v).pending = s.pending := rfl
@[simp] theorem State.results_done (v : Data) (s : State) : (s.done v).results = s.results := rfl
@[simp] theorem State.txLog_done (v : Data) (s : State) : (s.done v).txLog = s.txLog := rfl
@[simp] theorem State.params_done (v : Data) (s : State) : (s.done v).params = s.params := rfl
@[simp] theorem State.resetCount_done (v : Data) (s : State) : (s.done v).resetCount = s.resetCount := rfl

/-! ### A fault (`State.raise`) -/

@[simp] theorem State.buf_raise (st : Status) (s : State) : (s.raise st).buf = s.buf := rfl
@[simp] theorem State.sum_raise (st : Status) (s : State) : (s.raise st).sum = s.sum := rfl
@[simp] theorem State.phase_raise (st : Status) (s : State) : (s.raise st).phase = s.phase := rfl
@[simp] theorem State.frameLen_raise (st : Status) (s : State) : (s.raise st).frameLen = s.frameLen := rfl
@[simp] theorem State.cls_raise (st : Status) (s : State) : (s.raise st).cls = s.cls := rfl
@[simp] theorem State.clsFresh_raise (st : Status) (s : State) : (s.raise st).clsFresh = s.clsFresh := rfl
@[simp] theorem State.state_raise (st : Status) (s : State) : (s.raise st).state = s.state := rfl
@[simp] theorem State.req_raise (st : Status) (s : State) : (s.raise st).req = s.req := rfl
@[simp] theorem State.localPort_raise (st : Status) (s : State) : (s.raise st).localPort = s.localPort := rfl
@[simp] theorem State.peerSeq_raise (st : Status) (s : State) : (s.raise st).peerSeq = s.peerSeq := rfl
@[simp] theorem State.peerAck_raise (st : Status) (s : State) : (s.raise st).peerAck = s.peerAck := rfl
@[simp] theorem State.consumedLen_raise (st : Status) (s : State) : (s.raise st).consumedLen = s.consumedLen := rfl
@[simp] theorem State.lastSport_raise (st : Status) (s : State) : (s.raise st).lastSport = s.lastSport := rfl
@[simp] theorem State.lastDport_raise (st : Status) (s : State) : (s.raise st).lastDport = s.lastDport := rfl
@[simp] theorem State.localMac_raise (st : Status) (s : State) : (s.raise st).localMac = s.localMac := rfl
@[simp] theorem State.localIp_raise (st : Status) (s : State) : (s.raise st).localIp = s.localIp := rfl
@[simp] theorem State.subnetMask_raise (st : Status) (s : State) : (s.raise st).subnetMask = s.subnetMask := rfl
@[simp] theorem State.gateway_raise (st : Status) (s : State) : (s.raise st).gateway = s.gateway := rfl
@[simp] theorem State.dhcpEn_raise (st : Status) (s : State) : (s.raise st).dhcpEn = s.dhcpEn := rfl
@[simp] theorem State.rdata_raise (st : Status) (s : State) : (s.raise st).rdata = 0 := rfl
@[simp] theorem State.status_raise (st : Status) (s : State) : (s.raise st).status = st := rfl
@[simp] theorem State.wdata_raise (st : Status) (s : State) : (s.raise st).wdata = s.wdata := rfl
@[simp] theorem State.s0_raise (st : Status) (s : State) : (s.raise st).s0 = s.s0 := rfl
@[simp] theorem State.s1_raise (st : Status) (s : State) : (s.raise st).s1 = s.s1 := rfl
@[simp] theorem State.env_raise (st : Status) (s : State) : (s.raise st).env = s.env := rfl
@[simp] theorem State.pending_raise (st : Status) (s : State) : (s.raise st).pending = s.pending := rfl
@[simp] theorem State.results_raise (st : Status) (s : State) : (s.raise st).results = s.results := rfl
@[simp] theorem State.txLog_raise (st : Status) (s : State) : (s.raise st).txLog = s.txLog := rfl
@[simp] theorem State.params_raise (st : Status) (s : State) : (s.raise st).params = s.params := rfl
@[simp] theorem State.resetCount_raise (st : Status) (s : State) : (s.raise st).resetCount = s.resetCount := rfl

/-! ### Forgetting the classification (`State.clearCls`) -/

@[simp] theorem State.buf_clearCls (s : State) : s.clearCls.buf = s.buf := rfl
@[simp] theorem State.sum_clearCls (s : State) : s.clearCls.sum = s.sum := rfl
@[simp] theorem State.phase_clearCls (s : State) : s.clearCls.phase = s.phase := rfl
@[simp] theorem State.frameLen_clearCls (s : State) : s.clearCls.frameLen = s.frameLen := rfl
@[simp] theorem State.cls_clearCls (s : State) : s.clearCls.cls = 0 := rfl
@[simp] theorem State.clsFresh_clearCls (s : State) : s.clearCls.clsFresh = false := rfl
@[simp] theorem State.state_clearCls (s : State) : s.clearCls.state = s.state := rfl
@[simp] theorem State.req_clearCls (s : State) : s.clearCls.req = s.req := rfl
@[simp] theorem State.localPort_clearCls (s : State) : s.clearCls.localPort = s.localPort := rfl
@[simp] theorem State.peerSeq_clearCls (s : State) : s.clearCls.peerSeq = s.peerSeq := rfl
@[simp] theorem State.peerAck_clearCls (s : State) : s.clearCls.peerAck = s.peerAck := rfl
@[simp] theorem State.consumedLen_clearCls (s : State) : s.clearCls.consumedLen = s.consumedLen := rfl
@[simp] theorem State.lastSport_clearCls (s : State) : s.clearCls.lastSport = s.lastSport := rfl
@[simp] theorem State.lastDport_clearCls (s : State) : s.clearCls.lastDport = s.lastDport := rfl
@[simp] theorem State.localMac_clearCls (s : State) : s.clearCls.localMac = s.localMac := rfl
@[simp] theorem State.localIp_clearCls (s : State) : s.clearCls.localIp = s.localIp := rfl
@[simp] theorem State.subnetMask_clearCls (s : State) : s.clearCls.subnetMask = s.subnetMask := rfl
@[simp] theorem State.gateway_clearCls (s : State) : s.clearCls.gateway = s.gateway := rfl
@[simp] theorem State.dhcpEn_clearCls (s : State) : s.clearCls.dhcpEn = s.dhcpEn := rfl
@[simp] theorem State.rdata_clearCls (s : State) : s.clearCls.rdata = s.rdata := rfl
@[simp] theorem State.status_clearCls (s : State) : s.clearCls.status = s.status := rfl
@[simp] theorem State.wdata_clearCls (s : State) : s.clearCls.wdata = s.wdata := rfl
@[simp] theorem State.s0_clearCls (s : State) : s.clearCls.s0 = s.s0 := rfl
@[simp] theorem State.s1_clearCls (s : State) : s.clearCls.s1 = s.s1 := rfl
@[simp] theorem State.env_clearCls (s : State) : s.clearCls.env = s.env := rfl
@[simp] theorem State.pending_clearCls (s : State) : s.clearCls.pending = s.pending := rfl
@[simp] theorem State.results_clearCls (s : State) : s.clearCls.results = s.results := rfl
@[simp] theorem State.txLog_clearCls (s : State) : s.clearCls.txLog = s.txLog := rfl
@[simp] theorem State.params_clearCls (s : State) : s.clearCls.params = s.params := rfl
@[simp] theorem State.resetCount_clearCls (s : State) : s.clearCls.resetCount = s.resetCount := rfl

/-! ### A store (`State.storeBytes`) -/

@[simp] theorem State.buf_storeBytes (a : Nat) (bs : List Byte) (s : State) : (s.storeBytes a bs).buf = Memory.insertAll s.buf a bs := rfl
@[simp] theorem State.sum_storeBytes (a : Nat) (bs : List Byte) (s : State) : (s.storeBytes a bs).sum = s.sum := rfl
@[simp] theorem State.phase_storeBytes (a : Nat) (bs : List Byte) (s : State) : (s.storeBytes a bs).phase = s.phase := rfl
@[simp] theorem State.frameLen_storeBytes (a : Nat) (bs : List Byte) (s : State) : (s.storeBytes a bs).frameLen = s.frameLen := rfl
@[simp] theorem State.cls_storeBytes (a : Nat) (bs : List Byte) (s : State) : (s.storeBytes a bs).cls = s.cls := rfl
@[simp] theorem State.clsFresh_storeBytes (a : Nat) (bs : List Byte) (s : State) : (s.storeBytes a bs).clsFresh = s.clsFresh := rfl
@[simp] theorem State.state_storeBytes (a : Nat) (bs : List Byte) (s : State) : (s.storeBytes a bs).state = s.state := rfl
@[simp] theorem State.req_storeBytes (a : Nat) (bs : List Byte) (s : State) : (s.storeBytes a bs).req = s.req := rfl
@[simp] theorem State.localPort_storeBytes (a : Nat) (bs : List Byte) (s : State) : (s.storeBytes a bs).localPort = s.localPort := rfl
@[simp] theorem State.peerSeq_storeBytes (a : Nat) (bs : List Byte) (s : State) : (s.storeBytes a bs).peerSeq = s.peerSeq := rfl
@[simp] theorem State.peerAck_storeBytes (a : Nat) (bs : List Byte) (s : State) : (s.storeBytes a bs).peerAck = s.peerAck := rfl
@[simp] theorem State.consumedLen_storeBytes (a : Nat) (bs : List Byte) (s : State) : (s.storeBytes a bs).consumedLen = s.consumedLen := rfl
@[simp] theorem State.lastSport_storeBytes (a : Nat) (bs : List Byte) (s : State) : (s.storeBytes a bs).lastSport = s.lastSport := rfl
@[simp] theorem State.lastDport_storeBytes (a : Nat) (bs : List Byte) (s : State) : (s.storeBytes a bs).lastDport = s.lastDport := rfl
@[simp] theorem State.localMac_storeBytes (a : Nat) (bs : List Byte) (s : State) : (s.storeBytes a bs).localMac = s.localMac := rfl
@[simp] theorem State.localIp_storeBytes (a : Nat) (bs : List Byte) (s : State) : (s.storeBytes a bs).localIp = s.localIp := rfl
@[simp] theorem State.subnetMask_storeBytes (a : Nat) (bs : List Byte) (s : State) : (s.storeBytes a bs).subnetMask = s.subnetMask := rfl
@[simp] theorem State.gateway_storeBytes (a : Nat) (bs : List Byte) (s : State) : (s.storeBytes a bs).gateway = s.gateway := rfl
@[simp] theorem State.dhcpEn_storeBytes (a : Nat) (bs : List Byte) (s : State) : (s.storeBytes a bs).dhcpEn = s.dhcpEn := rfl
@[simp] theorem State.rdata_storeBytes (a : Nat) (bs : List Byte) (s : State) : (s.storeBytes a bs).rdata = s.rdata := rfl
@[simp] theorem State.status_storeBytes (a : Nat) (bs : List Byte) (s : State) : (s.storeBytes a bs).status = s.status := rfl
@[simp] theorem State.wdata_storeBytes (a : Nat) (bs : List Byte) (s : State) : (s.storeBytes a bs).wdata = s.wdata := rfl
@[simp] theorem State.s0_storeBytes (a : Nat) (bs : List Byte) (s : State) : (s.storeBytes a bs).s0 = s.s0 := rfl
@[simp] theorem State.s1_storeBytes (a : Nat) (bs : List Byte) (s : State) : (s.storeBytes a bs).s1 = s.s1 := rfl
@[simp] theorem State.env_storeBytes (a : Nat) (bs : List Byte) (s : State) : (s.storeBytes a bs).env = s.env := rfl
@[simp] theorem State.pending_storeBytes (a : Nat) (bs : List Byte) (s : State) : (s.storeBytes a bs).pending = s.pending := rfl
@[simp] theorem State.results_storeBytes (a : Nat) (bs : List Byte) (s : State) : (s.storeBytes a bs).results = s.results := rfl
@[simp] theorem State.txLog_storeBytes (a : Nat) (bs : List Byte) (s : State) : (s.storeBytes a bs).txLog = s.txLog := rfl
@[simp] theorem State.params_storeBytes (a : Nat) (bs : List Byte) (s : State) : (s.storeBytes a bs).params = s.params := rfl
@[simp] theorem State.resetCount_storeBytes (a : Nat) (bs : List Byte) (s : State) : (s.storeBytes a bs).resetCount = s.resetCount := rfl

/-! ### Setting the frame length (`State.setFlen`) -/

@[simp] theorem State.buf_setFlen (n : Nat) (s : State) : (s.setFlen n).buf = s.buf := rfl
@[simp] theorem State.sum_setFlen (n : Nat) (s : State) : (s.setFlen n).sum = s.sum := rfl
@[simp] theorem State.phase_setFlen (n : Nat) (s : State) : (s.setFlen n).phase = s.phase := rfl
@[simp] theorem State.frameLen_setFlen (n : Nat) (s : State) : (s.setFlen n).frameLen = BitVec.ofNat 16 n := rfl
@[simp] theorem State.cls_setFlen (n : Nat) (s : State) : (s.setFlen n).cls = s.cls := rfl
@[simp] theorem State.clsFresh_setFlen (n : Nat) (s : State) : (s.setFlen n).clsFresh = s.clsFresh := rfl
@[simp] theorem State.state_setFlen (n : Nat) (s : State) : (s.setFlen n).state = s.state := rfl
@[simp] theorem State.req_setFlen (n : Nat) (s : State) : (s.setFlen n).req = s.req := rfl
@[simp] theorem State.localPort_setFlen (n : Nat) (s : State) : (s.setFlen n).localPort = s.localPort := rfl
@[simp] theorem State.peerSeq_setFlen (n : Nat) (s : State) : (s.setFlen n).peerSeq = s.peerSeq := rfl
@[simp] theorem State.peerAck_setFlen (n : Nat) (s : State) : (s.setFlen n).peerAck = s.peerAck := rfl
@[simp] theorem State.consumedLen_setFlen (n : Nat) (s : State) : (s.setFlen n).consumedLen = s.consumedLen := rfl
@[simp] theorem State.lastSport_setFlen (n : Nat) (s : State) : (s.setFlen n).lastSport = s.lastSport := rfl
@[simp] theorem State.lastDport_setFlen (n : Nat) (s : State) : (s.setFlen n).lastDport = s.lastDport := rfl
@[simp] theorem State.localMac_setFlen (n : Nat) (s : State) : (s.setFlen n).localMac = s.localMac := rfl
@[simp] theorem State.localIp_setFlen (n : Nat) (s : State) : (s.setFlen n).localIp = s.localIp := rfl
@[simp] theorem State.subnetMask_setFlen (n : Nat) (s : State) : (s.setFlen n).subnetMask = s.subnetMask := rfl
@[simp] theorem State.gateway_setFlen (n : Nat) (s : State) : (s.setFlen n).gateway = s.gateway := rfl
@[simp] theorem State.dhcpEn_setFlen (n : Nat) (s : State) : (s.setFlen n).dhcpEn = s.dhcpEn := rfl
@[simp] theorem State.rdata_setFlen (n : Nat) (s : State) : (s.setFlen n).rdata = s.rdata := rfl
@[simp] theorem State.status_setFlen (n : Nat) (s : State) : (s.setFlen n).status = s.status := rfl
@[simp] theorem State.wdata_setFlen (n : Nat) (s : State) : (s.setFlen n).wdata = s.wdata := rfl
@[simp] theorem State.s0_setFlen (n : Nat) (s : State) : (s.setFlen n).s0 = s.s0 := rfl
@[simp] theorem State.s1_setFlen (n : Nat) (s : State) : (s.setFlen n).s1 = s.s1 := rfl
@[simp] theorem State.env_setFlen (n : Nat) (s : State) : (s.setFlen n).env = s.env := rfl
@[simp] theorem State.pending_setFlen (n : Nat) (s : State) : (s.setFlen n).pending = s.pending := rfl
@[simp] theorem State.results_setFlen (n : Nat) (s : State) : (s.setFlen n).results = s.results := rfl
@[simp] theorem State.txLog_setFlen (n : Nat) (s : State) : (s.setFlen n).txLog = s.txLog := rfl
@[simp] theorem State.params_setFlen (n : Nat) (s : State) : (s.setFlen n).params = s.params := rfl
@[simp] theorem State.resetCount_setFlen (n : Nat) (s : State) : (s.setFlen n).resetCount = s.resetCount := rfl

/-! ### Setting the accumulator (`State.withAcc`) -/

@[simp] theorem State.buf_withAcc (c : Acc) (s : State) : (s.withAcc c).buf = s.buf := rfl
@[simp] theorem State.sum_withAcc (c : Acc) (s : State) : (s.withAcc c).sum = c.sum := rfl
@[simp] theorem State.phase_withAcc (c : Acc) (s : State) : (s.withAcc c).phase = c.phase := rfl
@[simp] theorem State.frameLen_withAcc (c : Acc) (s : State) : (s.withAcc c).frameLen = s.frameLen := rfl
@[simp] theorem State.cls_withAcc (c : Acc) (s : State) : (s.withAcc c).cls = s.cls := rfl
@[simp] theorem State.clsFresh_withAcc (c : Acc) (s : State) : (s.withAcc c).clsFresh = s.clsFresh := rfl
@[simp] theorem State.state_withAcc (c : Acc) (s : State) : (s.withAcc c).state = s.state := rfl
@[simp] theorem State.req_withAcc (c : Acc) (s : State) : (s.withAcc c).req = s.req := rfl
@[simp] theorem State.localPort_withAcc (c : Acc) (s : State) : (s.withAcc c).localPort = s.localPort := rfl
@[simp] theorem State.peerSeq_withAcc (c : Acc) (s : State) : (s.withAcc c).peerSeq = s.peerSeq := rfl
@[simp] theorem State.peerAck_withAcc (c : Acc) (s : State) : (s.withAcc c).peerAck = s.peerAck := rfl
@[simp] theorem State.consumedLen_withAcc (c : Acc) (s : State) : (s.withAcc c).consumedLen = s.consumedLen := rfl
@[simp] theorem State.lastSport_withAcc (c : Acc) (s : State) : (s.withAcc c).lastSport = s.lastSport := rfl
@[simp] theorem State.lastDport_withAcc (c : Acc) (s : State) : (s.withAcc c).lastDport = s.lastDport := rfl
@[simp] theorem State.localMac_withAcc (c : Acc) (s : State) : (s.withAcc c).localMac = s.localMac := rfl
@[simp] theorem State.localIp_withAcc (c : Acc) (s : State) : (s.withAcc c).localIp = s.localIp := rfl
@[simp] theorem State.subnetMask_withAcc (c : Acc) (s : State) : (s.withAcc c).subnetMask = s.subnetMask := rfl
@[simp] theorem State.gateway_withAcc (c : Acc) (s : State) : (s.withAcc c).gateway = s.gateway := rfl
@[simp] theorem State.dhcpEn_withAcc (c : Acc) (s : State) : (s.withAcc c).dhcpEn = s.dhcpEn := rfl
@[simp] theorem State.rdata_withAcc (c : Acc) (s : State) : (s.withAcc c).rdata = s.rdata := rfl
@[simp] theorem State.status_withAcc (c : Acc) (s : State) : (s.withAcc c).status = s.status := rfl
@[simp] theorem State.wdata_withAcc (c : Acc) (s : State) : (s.withAcc c).wdata = s.wdata := rfl
@[simp] theorem State.s0_withAcc (c : Acc) (s : State) : (s.withAcc c).s0 = s.s0 := rfl
@[simp] theorem State.s1_withAcc (c : Acc) (s : State) : (s.withAcc c).s1 = s.s1 := rfl
@[simp] theorem State.env_withAcc (c : Acc) (s : State) : (s.withAcc c).env = s.env := rfl
@[simp] theorem State.pending_withAcc (c : Acc) (s : State) : (s.withAcc c).pending = s.pending := rfl
@[simp] theorem State.results_withAcc (c : Acc) (s : State) : (s.withAcc c).results = s.results := rfl
@[simp] theorem State.txLog_withAcc (c : Acc) (s : State) : (s.withAcc c).txLog = s.txLog := rfl
@[simp] theorem State.params_withAcc (c : Acc) (s : State) : (s.withAcc c).params = s.params := rfl
@[simp] theorem State.resetCount_withAcc (c : Acc) (s : State) : (s.withAcc c).resetCount = s.resetCount := rfl

/-! ### Setting the event latch (`State.setLatch`) -/

@[simp] theorem State.buf_setLatch (l : Latch) (s : State) : (s.setLatch l).buf = s.buf := rfl
@[simp] theorem State.sum_setLatch (l : Latch) (s : State) : (s.setLatch l).sum = s.sum := rfl
@[simp] theorem State.phase_setLatch (l : Latch) (s : State) : (s.setLatch l).phase = s.phase := rfl
@[simp] theorem State.frameLen_setLatch (l : Latch) (s : State) : (s.setLatch l).frameLen = s.frameLen := rfl
@[simp] theorem State.cls_setLatch (l : Latch) (s : State) : (s.setLatch l).cls = s.cls := rfl
@[simp] theorem State.clsFresh_setLatch (l : Latch) (s : State) : (s.setLatch l).clsFresh = s.clsFresh := rfl
@[simp] theorem State.state_setLatch (l : Latch) (s : State) : (s.setLatch l).state = s.state := rfl
@[simp] theorem State.req_setLatch (l : Latch) (s : State) : (s.setLatch l).req = s.req := rfl
@[simp] theorem State.localPort_setLatch (l : Latch) (s : State) : (s.setLatch l).localPort = s.localPort := rfl
@[simp] theorem State.peerSeq_setLatch (l : Latch) (s : State) : (s.setLatch l).peerSeq = l.seq := rfl
@[simp] theorem State.peerAck_setLatch (l : Latch) (s : State) : (s.setLatch l).peerAck = l.ack := rfl
@[simp] theorem State.consumedLen_setLatch (l : Latch) (s : State) : (s.setLatch l).consumedLen = l.consumed := rfl
@[simp] theorem State.lastSport_setLatch (l : Latch) (s : State) : (s.setLatch l).lastSport = l.sport := rfl
@[simp] theorem State.lastDport_setLatch (l : Latch) (s : State) : (s.setLatch l).lastDport = l.dport := rfl
@[simp] theorem State.localMac_setLatch (l : Latch) (s : State) : (s.setLatch l).localMac = s.localMac := rfl
@[simp] theorem State.localIp_setLatch (l : Latch) (s : State) : (s.setLatch l).localIp = s.localIp := rfl
@[simp] theorem State.subnetMask_setLatch (l : Latch) (s : State) : (s.setLatch l).subnetMask = s.subnetMask := rfl
@[simp] theorem State.gateway_setLatch (l : Latch) (s : State) : (s.setLatch l).gateway = s.gateway := rfl
@[simp] theorem State.dhcpEn_setLatch (l : Latch) (s : State) : (s.setLatch l).dhcpEn = s.dhcpEn := rfl
@[simp] theorem State.rdata_setLatch (l : Latch) (s : State) : (s.setLatch l).rdata = s.rdata := rfl
@[simp] theorem State.status_setLatch (l : Latch) (s : State) : (s.setLatch l).status = s.status := rfl
@[simp] theorem State.wdata_setLatch (l : Latch) (s : State) : (s.setLatch l).wdata = s.wdata := rfl
@[simp] theorem State.s0_setLatch (l : Latch) (s : State) : (s.setLatch l).s0 = s.s0 := rfl
@[simp] theorem State.s1_setLatch (l : Latch) (s : State) : (s.setLatch l).s1 = s.s1 := rfl
@[simp] theorem State.env_setLatch (l : Latch) (s : State) : (s.setLatch l).env = s.env := rfl
@[simp] theorem State.pending_setLatch (l : Latch) (s : State) : (s.setLatch l).pending = s.pending := rfl
@[simp] theorem State.results_setLatch (l : Latch) (s : State) : (s.setLatch l).results = s.results := rfl
@[simp] theorem State.txLog_setLatch (l : Latch) (s : State) : (s.setLatch l).txLog = s.txLog := rfl
@[simp] theorem State.params_setLatch (l : Latch) (s : State) : (s.setLatch l).params = s.params := rfl
@[simp] theorem State.resetCount_setLatch (l : Latch) (s : State) : (s.setLatch l).resetCount = s.resetCount := rfl

/-! ### A command on the port (`State.present`) -/

@[simp] theorem State.buf_present (c : Command) (s : State) : (s.present c).buf = s.buf := rfl
@[simp] theorem State.sum_present (c : Command) (s : State) : (s.present c).sum = s.sum := rfl
@[simp] theorem State.phase_present (c : Command) (s : State) : (s.present c).phase = s.phase := rfl
@[simp] theorem State.frameLen_present (c : Command) (s : State) : (s.present c).frameLen = s.frameLen := rfl
@[simp] theorem State.cls_present (c : Command) (s : State) : (s.present c).cls = s.cls := rfl
@[simp] theorem State.clsFresh_present (c : Command) (s : State) : (s.present c).clsFresh = s.clsFresh := rfl
@[simp] theorem State.state_present (c : Command) (s : State) : (s.present c).state = s.state := rfl
@[simp] theorem State.req_present (c : Command) (s : State) : (s.present c).req = s.req := rfl
@[simp] theorem State.localPort_present (c : Command) (s : State) : (s.present c).localPort = s.localPort := rfl
@[simp] theorem State.peerSeq_present (c : Command) (s : State) : (s.present c).peerSeq = s.peerSeq := rfl
@[simp] theorem State.peerAck_present (c : Command) (s : State) : (s.present c).peerAck = s.peerAck := rfl
@[simp] theorem State.consumedLen_present (c : Command) (s : State) : (s.present c).consumedLen = s.consumedLen := rfl
@[simp] theorem State.lastSport_present (c : Command) (s : State) : (s.present c).lastSport = s.lastSport := rfl
@[simp] theorem State.lastDport_present (c : Command) (s : State) : (s.present c).lastDport = s.lastDport := rfl
@[simp] theorem State.localMac_present (c : Command) (s : State) : (s.present c).localMac = s.localMac := rfl
@[simp] theorem State.localIp_present (c : Command) (s : State) : (s.present c).localIp = s.localIp := rfl
@[simp] theorem State.subnetMask_present (c : Command) (s : State) : (s.present c).subnetMask = s.subnetMask := rfl
@[simp] theorem State.gateway_present (c : Command) (s : State) : (s.present c).gateway = s.gateway := rfl
@[simp] theorem State.dhcpEn_present (c : Command) (s : State) : (s.present c).dhcpEn = s.dhcpEn := rfl
@[simp] theorem State.rdata_present (c : Command) (s : State) : (s.present c).rdata = s.rdata := rfl
@[simp] theorem State.status_present (c : Command) (s : State) : (s.present c).status = s.status := rfl
@[simp] theorem State.wdata_present (c : Command) (s : State) : (s.present c).wdata = c.wdata := rfl
@[simp] theorem State.s0_present (c : Command) (s : State) : (s.present c).s0 = c.s0 := rfl
@[simp] theorem State.s1_present (c : Command) (s : State) : (s.present c).s1 = c.s1 := rfl
@[simp] theorem State.env_present (c : Command) (s : State) : (s.present c).env = c.env := rfl
@[simp] theorem State.pending_present (c : Command) (s : State) : (s.present c).pending = s.pending := rfl
@[simp] theorem State.results_present (c : Command) (s : State) : (s.present c).results = s.results := rfl
@[simp] theorem State.txLog_present (c : Command) (s : State) : (s.present c).txLog = s.txLog := rfl
@[simp] theorem State.params_present (c : Command) (s : State) : (s.present c).params = s.params := rfl
@[simp] theorem State.resetCount_present (c : Command) (s : State) : (s.present c).resetCount = s.resetCount := rfl

/-! ### Observing a result (`State.observe`) -/

@[simp] theorem State.buf_observe (s : State) : s.observe.buf = s.buf := rfl
@[simp] theorem State.sum_observe (s : State) : s.observe.sum = s.sum := rfl
@[simp] theorem State.phase_observe (s : State) : s.observe.phase = s.phase := rfl
@[simp] theorem State.frameLen_observe (s : State) : s.observe.frameLen = s.frameLen := rfl
@[simp] theorem State.cls_observe (s : State) : s.observe.cls = s.cls := rfl
@[simp] theorem State.clsFresh_observe (s : State) : s.observe.clsFresh = s.clsFresh := rfl
@[simp] theorem State.state_observe (s : State) : s.observe.state = s.state := rfl
@[simp] theorem State.req_observe (s : State) : s.observe.req = s.req := rfl
@[simp] theorem State.localPort_observe (s : State) : s.observe.localPort = s.localPort := rfl
@[simp] theorem State.peerSeq_observe (s : State) : s.observe.peerSeq = s.peerSeq := rfl
@[simp] theorem State.peerAck_observe (s : State) : s.observe.peerAck = s.peerAck := rfl
@[simp] theorem State.consumedLen_observe (s : State) : s.observe.consumedLen = s.consumedLen := rfl
@[simp] theorem State.lastSport_observe (s : State) : s.observe.lastSport = s.lastSport := rfl
@[simp] theorem State.lastDport_observe (s : State) : s.observe.lastDport = s.lastDport := rfl
@[simp] theorem State.localMac_observe (s : State) : s.observe.localMac = s.localMac := rfl
@[simp] theorem State.localIp_observe (s : State) : s.observe.localIp = s.localIp := rfl
@[simp] theorem State.subnetMask_observe (s : State) : s.observe.subnetMask = s.subnetMask := rfl
@[simp] theorem State.gateway_observe (s : State) : s.observe.gateway = s.gateway := rfl
@[simp] theorem State.dhcpEn_observe (s : State) : s.observe.dhcpEn = s.dhcpEn := rfl
@[simp] theorem State.rdata_observe (s : State) : s.observe.rdata = s.rdata := rfl
@[simp] theorem State.status_observe (s : State) : s.observe.status = s.status := rfl
@[simp] theorem State.wdata_observe (s : State) : s.observe.wdata = s.wdata := rfl
@[simp] theorem State.s0_observe (s : State) : s.observe.s0 = s.s0 := rfl
@[simp] theorem State.s1_observe (s : State) : s.observe.s1 = s.s1 := rfl
@[simp] theorem State.env_observe (s : State) : s.observe.env = s.env := rfl
@[simp] theorem State.pending_observe (s : State) : s.observe.pending = s.pending := rfl
@[simp] theorem State.results_observe (s : State) : s.observe.results = s.results ++ [⟨s.rdata, s.status⟩] := rfl
@[simp] theorem State.txLog_observe (s : State) : s.observe.txLog = s.txLog := rfl
@[simp] theorem State.params_observe (s : State) : s.observe.params = s.params := rfl
@[simp] theorem State.resetCount_observe (s : State) : s.observe.resetCount = s.resetCount := rfl

/-! ### Taking from the stimuli (`State.withPending`) -/

@[simp] theorem State.buf_withPending (l : List Stimulus) (s : State) : (s.withPending l).buf = s.buf := rfl
@[simp] theorem State.sum_withPending (l : List Stimulus) (s : State) : (s.withPending l).sum = s.sum := rfl
@[simp] theorem State.phase_withPending (l : List Stimulus) (s : State) : (s.withPending l).phase = s.phase := rfl
@[simp] theorem State.frameLen_withPending (l : List Stimulus) (s : State) : (s.withPending l).frameLen = s.frameLen := rfl
@[simp] theorem State.cls_withPending (l : List Stimulus) (s : State) : (s.withPending l).cls = s.cls := rfl
@[simp] theorem State.clsFresh_withPending (l : List Stimulus) (s : State) : (s.withPending l).clsFresh = s.clsFresh := rfl
@[simp] theorem State.state_withPending (l : List Stimulus) (s : State) : (s.withPending l).state = s.state := rfl
@[simp] theorem State.req_withPending (l : List Stimulus) (s : State) : (s.withPending l).req = s.req := rfl
@[simp] theorem State.localPort_withPending (l : List Stimulus) (s : State) : (s.withPending l).localPort = s.localPort := rfl
@[simp] theorem State.peerSeq_withPending (l : List Stimulus) (s : State) : (s.withPending l).peerSeq = s.peerSeq := rfl
@[simp] theorem State.peerAck_withPending (l : List Stimulus) (s : State) : (s.withPending l).peerAck = s.peerAck := rfl
@[simp] theorem State.consumedLen_withPending (l : List Stimulus) (s : State) : (s.withPending l).consumedLen = s.consumedLen := rfl
@[simp] theorem State.lastSport_withPending (l : List Stimulus) (s : State) : (s.withPending l).lastSport = s.lastSport := rfl
@[simp] theorem State.lastDport_withPending (l : List Stimulus) (s : State) : (s.withPending l).lastDport = s.lastDport := rfl
@[simp] theorem State.localMac_withPending (l : List Stimulus) (s : State) : (s.withPending l).localMac = s.localMac := rfl
@[simp] theorem State.localIp_withPending (l : List Stimulus) (s : State) : (s.withPending l).localIp = s.localIp := rfl
@[simp] theorem State.subnetMask_withPending (l : List Stimulus) (s : State) : (s.withPending l).subnetMask = s.subnetMask := rfl
@[simp] theorem State.gateway_withPending (l : List Stimulus) (s : State) : (s.withPending l).gateway = s.gateway := rfl
@[simp] theorem State.dhcpEn_withPending (l : List Stimulus) (s : State) : (s.withPending l).dhcpEn = s.dhcpEn := rfl
@[simp] theorem State.rdata_withPending (l : List Stimulus) (s : State) : (s.withPending l).rdata = s.rdata := rfl
@[simp] theorem State.status_withPending (l : List Stimulus) (s : State) : (s.withPending l).status = s.status := rfl
@[simp] theorem State.wdata_withPending (l : List Stimulus) (s : State) : (s.withPending l).wdata = s.wdata := rfl
@[simp] theorem State.s0_withPending (l : List Stimulus) (s : State) : (s.withPending l).s0 = s.s0 := rfl
@[simp] theorem State.s1_withPending (l : List Stimulus) (s : State) : (s.withPending l).s1 = s.s1 := rfl
@[simp] theorem State.env_withPending (l : List Stimulus) (s : State) : (s.withPending l).env = s.env := rfl
@[simp] theorem State.pending_withPending (l : List Stimulus) (s : State) : (s.withPending l).pending = l := rfl
@[simp] theorem State.results_withPending (l : List Stimulus) (s : State) : (s.withPending l).results = s.results := rfl
@[simp] theorem State.txLog_withPending (l : List Stimulus) (s : State) : (s.withPending l).txLog = s.txLog := rfl
@[simp] theorem State.params_withPending (l : List Stimulus) (s : State) : (s.withPending l).params = s.params := rfl
@[simp] theorem State.resetCount_withPending (l : List Stimulus) (s : State) : (s.withPending l).resetCount = s.resetCount := rfl

end Sys2Proof.Machine
end

