-- ==== Sys2Proof/Laws/Memory.lean ====
section
/-! SUPPORT. The laws of the Raw Packet Buffer: what a read after a write gives, the canonical form that every write keeps,
and big-endian numbers. -/

namespace Sys2Proof.Machine

/-! ### The list of cells -/

/-- Reading after writing one byte. -/
theorem Memory.lookup_insert (m : List Host.Cell) (a : Nat) (b : Byte) (x : Nat) :
    Memory.lookup (Memory.insert m a b) x = if x = a then some b else Memory.lookup m x := by
  induction m with
  | nil => simp [Memory.insert, Memory.lookup, eq_comm]
  | cons c rest ih =>
    obtain ⟨k, d⟩ := c
    simp only [Memory.insert]
    split
    · simp [Memory.lookup, eq_comm]
    · split
      · rename_i h; subst h
        by_cases hx : x = a
        · simp [Memory.lookup, hx]
        · simp [Memory.lookup, hx, Ne.symm hx]
      · by_cases hx : k = x
        · subst hx; simp [Memory.lookup]; omega
        · simp [Memory.lookup, hx, ih]

/-- Reading after writing a byte string. -/
theorem Memory.lookup_insertAll (bs : List Byte) (m : List Host.Cell) (a x : Nat) :
    Memory.lookup (Memory.insertAll m a bs) x =
      if a ≤ x ∧ x < a + bs.length then bs[x - a]? else Memory.lookup m x := by
  induction bs generalizing m a with
  | nil => rw [if_neg (by simp)]; rfl
  | cons b bs ih =>
    simp only [Memory.insertAll, ih, Memory.lookup_insert, List.length_cons]
    by_cases h1 : a + 1 ≤ x ∧ x < a + 1 + bs.length
    · rw [if_pos h1, if_pos (by omega), show x - a = (x - (a + 1)) + 1 by omega]; simp
    · rw [if_neg h1]
      by_cases hx : x = a
      · subst hx; simp
      · rw [if_neg hx, if_neg (by omega)]

theorem Memory.mem_insert {m : List Host.Cell} {a : Nat} {b : Byte} {c : Host.Cell}
    (h : c ∈ Memory.insert m a b) : c.1 = a ∨ c ∈ m := by
  induction m with
  | nil => simp [Memory.insert] at h; simp [h]
  | cons d rest ih =>
    obtain ⟨k, d⟩ := d
    simp only [Memory.insert] at h
    split at h
    · simp only [List.mem_cons] at h ⊢
      rcases h with rfl | h | h <;> simp_all
    · split at h
      · simp only [List.mem_cons] at h ⊢
        rcases h with rfl | h <;> simp_all
      · simp only [List.mem_cons] at h ⊢
        rcases h with h | h
        · simp [h]
        · rcases ih h with h | h <;> simp [h]

/-- Writing a byte keeps the canonical form. -/
theorem Memory.wf_insert {m : List Host.Cell} (h : Memory.wf m) (a : Nat) (b : Byte) :
    Memory.wf (Memory.insert m a b) := by
  induction m with
  | nil => simp [Memory.insert, Memory.wf]
  | cons c rest ih =>
    obtain ⟨k, d⟩ := c
    simp only [Memory.wf, List.pairwise_cons] at h
    simp only [Memory.insert]
    split
    · simp only [Memory.wf, List.pairwise_cons, List.mem_cons]
      refine ⟨?_, h⟩
      rintro x (rfl | hx)
      · assumption
      · have := h.1 x hx
        omega
    · split
      · rename_i hk; subst hk; simpa only [Memory.wf, List.pairwise_cons] using h
      · simp only [Memory.wf, List.pairwise_cons]
        refine ⟨fun x hx => ?_, ih h.2⟩
        rcases Memory.mem_insert hx with hx | hx
        · simp only [hx]; omega
        · exact h.1 x hx

/-- The memory right after reset is in canonical form (R52). -/
theorem Memory.wf_reset : Memory.wf State.reset.buf := List.Pairwise.nil

/-- Writing a byte string keeps the canonical form. -/
theorem Memory.wf_insertAll (bs : List Byte) {m : List Host.Cell} (h : Memory.wf m) (a : Nat) :
    Memory.wf (Memory.insertAll m a bs) := by
  induction bs generalizing m a with
  | nil => exact h
  | cons b bs ih => exact ih (Memory.wf_insert h a b) (a + 1)

/-- Writing below `BUF_CAP` lists no address that does not exist. -/
theorem Memory.inRange_insert {m : List Host.Cell} (h : Memory.inRange m) {a : Nat} (ha : a < Config.bufCap) (b : Byte) :
    Memory.inRange (Memory.insert m a b) := by
  intro c hc
  rcases Memory.mem_insert hc with hc | hc
  · omega
  · exact h c hc

/-- Writing a byte string below `BUF_CAP` lists no address that does not exist. -/
theorem Memory.inRange_insertAll (bs : List Byte) {m : List Host.Cell} (h : Memory.inRange m) {a : Nat}
    (ha : a + bs.length ≤ Config.bufCap) : Memory.inRange (Memory.insertAll m a bs) := by
  induction bs generalizing m a with
  | nil => exact h
  | cons b bs ih =>
    simp only [List.length_cons] at ha
    exact ih (Memory.inRange_insert h (by omega) b) (by omega)

/-! ### Bytes of a state -/

/-- What `buf[x]` is after a store: a stored byte, or what it was. -/
theorem State.byteAt_storeBytes (a : Nat) (bs : List Byte) (s : State) (x : Nat) :
    (s.storeBytes a bs).byteAt x = if a ≤ x ∧ x < a + bs.length then bs.getD (x - a) 0 else s.byteAt x := by
  simp only [State.byteAt, State.storeBytes, Memory.lookup_insertAll]
  split
  · rename_i h
    rw [List.getElem?_eq_getElem (by omega), List.getD_eq_getElem _ _ (by omega)]; rfl
  · rfl

/-- A byte outside a store keeps its value. -/
theorem State.byteAt_storeBytes_of_not {a : Nat} {bs : List Byte} {s : State} {x : Nat}
    (h : ¬ (a ≤ x ∧ x < a + bs.length)) : (s.storeBytes a bs).byteAt x = s.byteAt x := by
  rw [State.byteAt_storeBytes, if_neg h]

@[simp] theorem State.byteAt_done (v : Data) (s : State) (a : Nat) : (s.done v).byteAt a = s.byteAt a := rfl
@[simp] theorem State.byteAt_raise (st : Status) (s : State) (a : Nat) : (s.raise st).byteAt a = s.byteAt a := rfl
@[simp] theorem State.byteAt_clearCls (s : State) (a : Nat) : s.clearCls.byteAt a = s.byteAt a := rfl
@[simp] theorem State.byteAt_setFlen (n : Nat) (s : State) (a : Nat) : (s.setFlen n).byteAt a = s.byteAt a := rfl
@[simp] theorem State.byteAt_withAcc (c : Acc) (s : State) (a : Nat) : (s.withAcc c).byteAt a = s.byteAt a := rfl
@[simp] theorem State.byteAt_setLatch (l : Latch) (s : State) (a : Nat) : (s.setLatch l).byteAt a = s.byteAt a := rfl
@[simp] theorem State.byteAt_present (c : Command) (s : State) (a : Nat) : (s.present c).byteAt a = s.byteAt a := rfl
@[simp] theorem State.byteAt_observe (s : State) (a : Nat) : s.observe.byteAt a = s.byteAt a := rfl
@[simp] theorem State.byteAt_withPending (l : List Stimulus) (s : State) (a : Nat) :
    (s.withPending l).byteAt a = s.byteAt a := rfl

@[simp] theorem State.flen_done (v : Data) (s : State) : (s.done v).flen = s.flen := rfl
@[simp] theorem State.flen_raise (st : Status) (s : State) : (s.raise st).flen = s.flen := rfl
@[simp] theorem State.flen_clearCls (s : State) : s.clearCls.flen = s.flen := rfl
@[simp] theorem State.flen_storeBytes (a : Nat) (bs : List Byte) (s : State) : (s.storeBytes a bs).flen = s.flen := rfl
@[simp] theorem State.flen_withAcc (c : Acc) (s : State) : (s.withAcc c).flen = s.flen := rfl
@[simp] theorem State.flen_setLatch (l : Latch) (s : State) : (s.setLatch l).flen = s.flen := rfl
@[simp] theorem State.flen_present (c : Command) (s : State) : (s.present c).flen = s.flen := rfl
@[simp] theorem State.flen_observe (s : State) : s.observe.flen = s.flen := rfl
@[simp] theorem State.flen_withPending (l : List Stimulus) (s : State) : (s.withPending l).flen = s.flen := rfl

/-- The frame length that was set, when it fits the register. -/
theorem State.flen_setFlen {n : Nat} (h : n < 65536) (s : State) : (s.setFlen n).flen = n := by
  simp [State.flen, State.setFlen, Nat.mod_eq_of_lt h]

@[simp] theorem State.bytesAt_length (s : State) (a n : Nat) : (s.bytesAt a n).length = n := by simp [State.bytesAt]

/-- The k-th byte of `buf[a..a+n)`. -/
theorem State.bytesAt_getElem? (s : State) (a n k : Nat) (h : k < n) : (s.bytesAt a n)[k]? = some (s.byteAt (a + k)) := by
  simp [State.bytesAt, h]

/-- Two states with the same bytes in a region read the same region. -/
theorem State.bytesAt_congr {s t : State} {a n : Nat} (h : ∀ k, k < n → s.byteAt (a + k) = t.byteAt (a + k)) :
    s.bytesAt a n = t.bytesAt a n := by
  exact List.map_congr_left (fun k hk => h k (List.mem_range.1 hk))

theorem State.bytesAt_zero (s : State) (a : Nat) : s.bytesAt a 0 = [] := rfl

theorem State.bytesAt_add (s : State) (a n m : Nat) : s.bytesAt a (n + m) = s.bytesAt a n ++ s.bytesAt (a + n) m := by
  simp [State.bytesAt, List.range_add, List.map_append, Function.comp_def, Nat.add_assoc]

theorem State.bytesAt_one (s : State) (a : Nat) : s.bytesAt a 1 = [s.byteAt a] := rfl

/-- A region that was just stored reads as what was stored. -/
theorem State.bytesAt_storeBytes (a : Nat) (bs : List Byte) (s : State) :
    (s.storeBytes a bs).bytesAt a bs.length = bs := by
  apply List.ext_getElem?
  intro k
  by_cases h : k < bs.length
  · rw [State.bytesAt_getElem? _ _ _ _ h, State.byteAt_storeBytes, if_pos (by omega),
      List.getD_eq_getElem _ _ (by omega), List.getElem?_eq_getElem h]
    simp
  · rw [List.getElem?_eq_none (by simp; omega), List.getElem?_eq_none (by omega)]

/-! ### Big-endian numbers -/

theorem beValue_foldl (bs : List Byte) (v : Nat) :
    bs.foldl (fun v b => v * 256 + b.toNat) v = v * 256 ^ bs.length + beValue bs := by
  induction bs generalizing v with
  | nil => simp [beValue]
  | cons b bs ih =>
    have h0 : beValue (b :: bs) = bs.foldl (fun v b => v * 256 + b.toNat) b.toNat := by simp [beValue]
    rw [h0, List.foldl_cons, ih, ih, List.length_cons, pow_succ]; ring

@[simp] theorem beValue_nil : beValue [] = 0 := rfl

theorem beValue_cons (b : Byte) (bs : List Byte) : beValue (b :: bs) = b.toNat * 256 ^ bs.length + beValue bs := by
  have h0 : beValue (b :: bs) = bs.foldl (fun v b => v * 256 + b.toNat) b.toNat := by simp [beValue]
  rw [h0, beValue_foldl]

theorem beValue_lt (bs : List Byte) : beValue bs < 256 ^ bs.length := by
  induction bs with
  | nil => simp
  | cons b bs ih =>
    rw [beValue_cons, List.length_cons, pow_succ]
    have := b.isLt
    nlinarith [Nat.pos_of_ne_zero (pow_ne_zero bs.length (by norm_num : (256 : Nat) ≠ 0))]

@[simp] theorem beBytes_length (n v : Nat) : (beBytes n v).length = n := by
  induction n with
  | zero => rfl
  | succ n ih => simp [beBytes, ih]

/-- Writing a number and reading it back keeps its low bytes (R14, R186). -/
theorem beValue_beBytes (n v : Nat) : beValue (beBytes n v) = v % 256 ^ n := by
  induction n with
  | zero => simp [beBytes, Nat.mod_one]
  | succ n ih =>
    rw [beBytes, beValue_cons, beBytes_length, ih, pow_succ, Nat.mod_mul]
    simp only [BitVec.toNat_ofNat]; ring

/-- The k-th byte of a number's `n` bytes (R14). -/
theorem beBytes_getElem? (n v k : Nat) (h : k < n) :
    (beBytes n v)[k]? = some (BitVec.ofNat 8 (v / 256 ^ (n - 1 - k))) := by
  induction n generalizing k with
  | zero => omega
  | succ n ih =>
    cases k with
    | zero => simp [beBytes]
    | succ k =>
      simp only [beBytes, List.getElem?_cons_succ]; rw [ih k (by omega), show n + 1 - 1 - (k + 1) = n - 1 - k by omega]

/-- A number that fits its field reads back as it is. -/
theorem State.memRead_memWrite (a n v : Nat) (h : v < 256 ^ n) (s : State) : (s.memWrite a n v).memRead a n = v := by
  unfold State.memRead State.memWrite
  have := State.bytesAt_storeBytes a (beBytes n v) s
  rw [beBytes_length] at this
  rw [this, beValue_beBytes, Nat.mod_eq_of_lt h]

theorem State.memRead_lt (s : State) (a n : Nat) : s.memRead a n < 256 ^ n := by
  have := beValue_lt (s.bytesAt a n)
  rwa [State.bytesAt_length] at this

/-! ### The stream port -/

@[simp] theorem streamBytes_length (l : List Byte) (n : Nat) : (streamBytes l n).length = n := by simp [streamBytes]

/-- A stream of the counted length is taken as it is (R120). -/
theorem streamBytes_exact (l : List Byte) : streamBytes l l.length = l := by
  apply List.ext_getElem?
  intro k
  by_cases h : k < l.length
  · simp [streamBytes, h]
  · simp [streamBytes, h]

end Sys2Proof.Machine
end

