-- ==== Sys2Proof/Laws/Checksum.lean ====
section
/-! SUPPORT. The laws of the checksum unit: accumulation in closed form (R151, R158), the fold (R156), verification (R159,
R160), and what each composite computation gives (R163 to R167). -/

namespace Sys2Proof.Machine

/-! ### Accumulation -/

@[simp] theorem Acc.bytes_nil (c : Acc) : c.bytes [] = c := rfl

theorem Acc.bytes_cons (c : Acc) (b : Byte) (bs : List Byte) : c.bytes (b :: bs) = (c.byte b).bytes bs := rfl

/-- Accumulating in pieces equals accumulating whole (R158). -/
theorem Acc.bytes_append (c : Acc) (xs ys : List Byte) : c.bytes (xs ++ ys) = (c.bytes xs).bytes ys := by
  simp [Acc.bytes]

/-- The weighted sum of a byte string, from a phase on: 256 for a high byte, 1 for a low byte. -/
def weigh : Bool → List Byte → Nat
  | _, [] => 0
  | p, b :: bs => (if p then 1 else 256) * b.toNat + weigh (!p) bs

/-- Accumulation in closed form (R158): the weighted sum is added modulo 2^32, and the phase toggles once a byte. -/
theorem Acc.bytes_eq (bs : List Byte) (c : Acc) :
    c.bytes bs = ⟨BitVec.ofNat 32 (c.sum.toNat + weigh c.phase bs), xor c.phase (decide (bs.length % 2 = 1))⟩ := by
  induction bs generalizing c with
  | nil => simp [weigh]
  | cons b bs ih =>
    rw [Acc.bytes_cons, ih]
    obtain ⟨sum, phase⟩ := c
    have hpar : decide ((bs.length + 1) % 2 = 1) = !decide (bs.length % 2 = 1) := by
      rcases Nat.mod_two_eq_zero_or_one bs.length with h | h <;> simp [Nat.add_mod, h]
    cases phase
    · simp only [Acc.byte, weigh, List.length_cons, hpar]
      congr 1
      · apply BitVec.eq_of_toNat_eq; simp; omega
      · cases decide (bs.length % 2 = 1) <;> rfl
    · simp only [Acc.byte, weigh, List.length_cons, hpar]
      congr 1
      · apply BitVec.eq_of_toNat_eq; simp; omega
      · cases decide (bs.length % 2 = 1) <;> rfl

theorem weigh_append (p : Bool) (xs ys : List Byte) :
    weigh p (xs ++ ys) = weigh p xs + weigh (xor p (decide (xs.length % 2 = 1))) ys := by
  induction xs generalizing p with
  | nil => simp [weigh]
  | cons x xs ih =>
    have hpar : decide ((xs.length + 1) % 2 = 1) = !decide (xs.length % 2 = 1) := by
      rcases Nat.mod_two_eq_zero_or_one xs.length with h | h <;> simp [Nat.add_mod, h]
    simp only [List.cons_append, weigh, ih, List.length_cons, hpar]
    cases p <;> cases decide (xs.length % 2 = 1) <;> simp <;> omega

theorem weigh_le (p : Bool) (bs : List Byte) : weigh p bs ≤ 65280 * bs.length := by
  induction bs generalizing p with
  | nil => simp [weigh]
  | cons b bs ih =>
    have h1 := ih (!p)
    have h2 := b.isLt
    simp only [weigh, List.length_cons]
    cases p <;> simp at h1 ⊢ <;> omega

/-- A region's weighted sum, index by index. -/
theorem weigh_bytesAt (p : Bool) (s : State) (a n : Nat) :
    weigh p (s.bytesAt a n) =
      ((List.range n).map (fun k => (if (k % 2 = 0 ↔ p = false) then 256 else 1) * (s.byteAt (a + k)).toNat)).sum := by
  induction n with
  | zero => simp [State.bytesAt, weigh]
  | succ n ih =>
    rw [State.bytesAt_add, weigh_append, ih, List.range_succ, List.map_append, List.sum_append]
    simp only [State.bytesAt_length, State.bytesAt_one, weigh, List.map_cons, List.map_nil, List.sum_cons, List.sum_nil]
    rcases Nat.mod_two_eq_zero_or_one n with h | h <;> cases p <;> simp [h]

theorem State.frameSum_eq (s : State) (a n : Nat) : s.frameSum a n = weigh false (s.bytesAt a n) := by
  rw [weigh_bytesAt, State.frameSum]; simp

theorem State.frameSum_zero (s : State) (a : Nat) : s.frameSum a 0 = 0 := by simp [State.frameSum]

/-- A region of even length and what follows it (R158). -/
theorem State.frameSum_add (s : State) (a n m : Nat) (h : n % 2 = 0) :
    s.frameSum a (n + m) = s.frameSum a n + s.frameSum (a + n) m := by
  simp [State.frameSum_eq, State.bytesAt_add, weigh_append, h]

theorem State.frameSum_congr {s t : State} {a n : Nat} (h : ∀ k, k < n → s.byteAt (a + k) = t.byteAt (a + k)) :
    s.frameSum a n = t.frameSum a n := by
  rw [State.frameSum_eq, State.frameSum_eq, State.bytesAt_congr h]

theorem State.frameSum_le (s : State) (a n : Nat) : s.frameSum a n ≤ 65280 * n := by
  rw [State.frameSum_eq]; simpa using weigh_le false (s.bytesAt a n)

/-- A two-byte field's sum is its value. -/
theorem State.frameSum_two (s : State) (a : Nat) : s.frameSum a 2 = s.memRead a 2 := by
  rw [State.frameSum_eq, State.memRead]
  simp [State.bytesAt, List.range_succ, weigh, beValue]; omega

/-! ### The fold -/

theorem onesFold_le (n : Nat) : onesFold n ≤ 65535 := by
  unfold onesFold; split <;> omega

theorem onesFold_lt (n : Nat) : onesFold n < 65536 := Nat.lt_succ_of_le (onesFold_le n)

theorem onesFold_of_lt {n : Nat} (h : n < 65536) : onesFold n = n := by
  unfold onesFold; split <;> omega

/-- One pass keeps the value of the closed form. -/
theorem onesFold_pass (n : Nat) : onesFold (n % 65536 + n / 65536) = onesFold n := by
  unfold onesFold
  split
  · split <;> omega
  · split <;> omega

theorem foldPass_toNat (s : BitVec 32) :
    (foldPass s).toNat = if s.toNat / 65536 = 0 then s.toNat else s.toNat % 65536 + s.toNat / 65536 := by
  have := s.isLt
  unfold foldPass
  split
  · simp
  · simp only [BitVec.toNat_ofNat]; omega

/-- The fold, in the closed form of R156. -/
theorem foldSum_toNat (s : BitVec 32) : (foldSum s).toNat = onesFold s.toNat := by
  have h0 := s.isLt
  have h1 : onesFold (foldPass s).toNat = onesFold s.toNat := by
    rw [foldPass_toNat]; split
    · rfl
    · exact onesFold_pass _
  have h2 : onesFold (foldSum s).toNat = onesFold s.toNat := by
    rw [← h1, foldSum, foldPass_toNat (foldPass s)]; split
    · rfl
    · exact onesFold_pass _
  have h3 : (foldSum s).toNat < 65536 := by
    rw [foldSum, foldPass_toNat, foldPass_toNat]; split_ifs <;> omega
  rw [← h2, onesFold_of_lt h3]

theorem foldSum_eq (s : BitVec 32) : foldSum s = BitVec.ofNat 32 (onesFold s.toNat) := by
  apply BitVec.eq_of_toNat_eq
  have := onesFold_lt s.toNat
  rw [foldSum_toNat, BitVec.toNat_ofNat, Nat.mod_eq_of_lt (by omega)]

/-- The result of `CK_FINAL` (R156). -/
theorem Acc.checksum_eq (c : Acc) : c.checksum = BitVec.ofNat 16 (65535 - onesFold c.sum.toNat) := by
  have := onesFold_lt c.sum.toNat
  apply BitVec.eq_of_toNat_eq
  rw [Acc.checksum, BitVec.toNat_not, foldSum_toNat]
  simp only [BitVec.toNat_ofNat]; omega

theorem Acc.fold_eq (c : Acc) : c.fold = ⟨BitVec.ofNat 32 (onesFold c.sum.toNat), c.phase⟩ := by
  rw [Acc.fold, foldSum_eq]

/-- Adding the checksum to what it was computed over verifies (R160). -/
theorem onesFold_verify (r : Nat) : onesFold (r + (65535 - onesFold r)) = 65535 := by
  have h : onesFold r = if r = 0 then 0 else (r - 1) % 65535 + 1 := rfl
  have h2 := onesFold_le r
  split at h
  · subst_vars; rw [h]; rfl
  · rw [h]
    unfold onesFold
    rw [if_neg (by omega)]; omega

/-- A small sum, as the accumulator holds it. -/
theorem toNat_ofNat_sum {n : Nat} (h : n < 4294967296) : (BitVec.ofNat 32 n).toNat = n := by
  simp [Nat.mod_eq_of_lt h]

/-- What an accumulation from the reset leaves, when nothing wraps. -/
theorem ckFinish_of_sum {n : Nat} (h : n < 4294967296) (p : Bool) :
    ckFinish ⟨BitVec.ofNat 32 n, p⟩ = ⟨⟨BitVec.ofNat 32 (onesFold n), p⟩, some (BitVec.ofNat 16 (65535 - onesFold n))⟩ := by
  rw [ckFinish, Acc.fold_eq, Acc.checksum_eq]
  simp only [toNat_ofNat_sum h]

theorem Acc.zero_bytesAt (s : State) (a n : Nat) :
    Acc.zero.bytes (s.bytesAt a n) = ⟨BitVec.ofNat 32 (s.frameSum a n), decide (n % 2 = 1)⟩ := by
  rw [Acc.bytes_eq, State.frameSum_eq]; simp [Acc.zero]

theorem Acc.bytesAt_of (n : Nat) (s : State) (a m : Nat) :
    (Acc.mk (BitVec.ofNat 32 n) false).bytes (s.bytesAt a m) = ⟨BitVec.ofNat 32 (n + s.frameSum a m), decide (m % 2 = 1)⟩ := by
  rw [Acc.bytes_eq, State.frameSum_eq]
  simp only [State.bytesAt_length, Bool.false_xor, Acc.mk.injEq, and_true]
  apply BitVec.eq_of_toNat_eq; simp

/-- A 16-bit word from phase 0 is added whole (R154). -/
theorem Acc.word_of (n : Nat) (w : BitVec 16) :
    (Acc.mk (BitVec.ofNat 32 n) false).word w = ⟨BitVec.ofNat 32 (n + w.toNat), false⟩ := by
  have h := w.isLt
  rw [Acc.word, Acc.bytes_eq]
  simp only [beBytes, weigh, List.length_cons, List.length_nil]
  congr 1
  · apply BitVec.eq_of_toNat_eq
    simp; omega
  · simp

end Sys2Proof.Machine
end

