-- ==== Sys2Proof/Laws/Operands.lean ====
section
/-! SUPPORT. The laws of the operands: reads and writes of fields, and reads of what a store has left alone. -/

namespace Sys2Proof.Machine

/-! ### Reads that a store does not touch -/

theorem State.memRead_congr {s t : State} {a n : Nat} (h : ∀ k, k < n → s.byteAt (a + k) = t.byteAt (a + k)) :
    s.memRead a n = t.memRead a n := by
  rw [State.memRead, State.memRead, State.bytesAt_congr h]

theorem State.byteAt_memWrite (a n v : Nat) (s : State) (x : Nat) :
    (s.memWrite a n v).byteAt x = if a ≤ x ∧ x < a + n then (beBytes n v).getD (x - a) 0 else s.byteAt x := by
  rw [State.memWrite, State.byteAt_storeBytes, beBytes_length]

theorem State.byteAt_memWrite_of_not {a n v : Nat} {s : State} {x : Nat} (h : ¬ (a ≤ x ∧ x < a + n)) :
    (s.memWrite a n v).byteAt x = s.byteAt x := by
  rw [State.byteAt_memWrite, if_neg h]

/-- A read of a region that a write does not meet. -/
theorem State.memRead_memWrite_of_disjoint {a n v b m : Nat} {s : State} (h : b + m ≤ a ∨ a + n ≤ b) :
    (s.memWrite a n v).memRead b m = s.memRead b m :=
  State.memRead_congr fun k hk => State.byteAt_memWrite_of_not (by omega)

/-- A sum of a region that a write does not meet. -/
theorem State.frameSum_memWrite_of_disjoint {a n v b m : Nat} {s : State} (h : b + m ≤ a ∨ a + n ≤ b) :
    (s.memWrite a n v).frameSum b m = s.frameSum b m :=
  State.frameSum_congr fun k hk => State.byteAt_memWrite_of_not (by omega)

theorem State.memRead_one (s : State) (a : Nat) : s.memRead a 1 = (s.byteAt a).toNat := by
  simp [State.memRead, State.bytesAt, beValue]

@[simp] theorem State.flen_memWrite (a n v : Nat) (s : State) : (s.memWrite a n v).flen = s.flen := rfl

/-- A number laid out inside a byte string that has been stored from address 0. -/
theorem State.memRead_storeBytes_zero {L : List Byte} {a n v : Nat} {s : State} (hl : a + n ≤ L.length)
    (h : (L.drop a).take n = beBytes n v) (hv : v < 256 ^ n) : (s.storeBytes 0 L).memRead a n = v := by
  have hb : (s.storeBytes 0 L).bytesAt a n = (L.drop a).take n := by
    apply List.ext_getElem?
    intro k
    by_cases hk : k < n
    · rw [State.bytesAt_getElem? _ _ _ _ hk, State.byteAt_storeBytes, if_pos (by omega), List.getElem?_take_of_lt hk,
        List.getElem?_drop, List.getD_eq_getElem _ _ (by omega), List.getElem?_eq_getElem (by omega)]
      simp
    · rw [List.getElem?_eq_none (by simp; omega), List.getElem?_eq_none (by simp; omega)]
  rw [State.memRead, hb, h, beValue_beBytes, Nat.mod_eq_of_lt hv]

/-! ### Fields -/

/-- Reading a field: its value, when it is in frame. -/
theorem State.readField_eq_some {f : Field} {s : State} {v : Nat} :
    s.readField f = some v ↔ s.fieldInFrame f = true ∧ s.fieldValue f = v := by
  unfold State.readField; split <;> simp_all

theorem State.readField_eq_none {f : Field} {s : State} : s.readField f = none ↔ s.fieldInFrame f = false := by
  unfold State.readField; split <;> simp_all

theorem State.fieldIs_iff {f : Field} {s : State} {v : Nat} :
    s.fieldIs f v = true ↔ s.fieldInFrame f = true ∧ s.fieldValue f = v := by
  unfold State.fieldIs; rw [beq_iff_eq, State.readField_eq_some]

/-- `GET` of a field, all it can do (R182). -/
theorem getField_eq (f : Field) (s : State) :
    getField f s =
      if s.fieldInFrame f = true then s.done (BitVec.ofNat 48 (s.fieldValue f)) else s.raise .errBounds := by
  unfold getField State.readField; split <;> simp_all

/-- A field's value fits the field. -/
theorem State.fieldValue_lt (f : Field) (s : State) : s.fieldValue f < 2 ^ fieldBits f := by
  unfold State.fieldValue fieldBits Shape.bits
  have h256 : ∀ w, (256 : Nat) ^ w = 2 ^ (8 * w) := fun w => by rw [pow_mul]; norm_num
  cases (fieldDesc f).shape with
  | bytes w => simp only; rw [← h256]; exact State.memRead_lt _ _ _
  | hi => simp only [State.hiNibble]; have := (s.byteAt (s.fieldAddr f)).isLt; omega
  | lo => simp only [State.loNibble]; omega

theorem fieldBytes_le (f : Field) : fieldBytes f ≤ 6 ∧ 1 ≤ fieldBytes f := by cases f <;> decide

theorem fieldBits_le (f : Field) : fieldBits f ≤ 48 := by cases f <;> decide

/-- The bytes of a field that a store of the field writes. -/
def fieldImage (f : Field) (v : Nat) (s : State) : List Byte :=
  match (fieldDesc f).shape with
  | .bytes w => beBytes w v
  | .hi => [BitVec.ofNat 8 (v * 16 + s.loNibble (s.fieldAddr f))]
  | .lo => [BitVec.ofNat 8 (s.hiNibble (s.fieldAddr f) * 16 + v % 16)]

@[simp] theorem fieldImage_length (f : Field) (v : Nat) (s : State) : (fieldImage f v s).length = fieldBytes f := by
  unfold fieldImage fieldBytes Shape.bytesTouched
  cases (fieldDesc f).shape <;> simp

/-- Storing a field is one store at the field's address (R183). -/
theorem State.storeField_eq (f : Field) (v : Nat) (s : State) :
    s.storeField f v = s.storeBytes (s.fieldAddr f) (fieldImage f v s) := by
  unfold State.storeField fieldImage
  cases (fieldDesc f).shape <;> rfl

/-- A byte outside a field that is stored keeps its value. -/
theorem State.byteAt_storeField_of_not {f : Field} {v : Nat} {s : State} {x : Nat}
    (h : ¬ (s.fieldAddr f ≤ x ∧ x < s.fieldAddr f + fieldBytes f)) : (s.storeField f v).byteAt x = s.byteAt x := by
  rw [State.storeField_eq]; exact State.byteAt_storeBytes_of_not (by rwa [fieldImage_length])

@[simp] theorem State.flen_storeField (f : Field) (v : Nat) (s : State) : (s.storeField f v).flen = s.flen := by
  rw [State.storeField_eq]; rfl

/-- `PUT` of a field, all it can do (R183, R184). -/
theorem putField_eq (f : Field) (s : State) :
    putField f s =
      if 2 ^ fieldBits f ≤ s.wdata.toNat then s.raise .errArg
      else if s.fieldInFrame f = true then
        ((s.storeBytes (s.fieldAddr f) (fieldImage f s.wdata.toNat s)).clearCls).done 0
      else s.raise .errBounds := by
  unfold putField; rw [State.storeField_eq]

theorem State.fieldInFrame_iff {f : Field} {s : State} :
    s.fieldInFrame f = true ↔ s.baseInFrame (fieldDesc f).base = true ∧ s.fieldAddr f + fieldBytes f ≤ s.flen := by
  unfold State.fieldInFrame; rw [Bool.and_eq_true, decide_eq_true_iff]

theorem State.l4InFrame_iff {s : State} : s.l4InFrame = true ↔ 15 ≤ s.flen := by
  unfold State.l4InFrame; rw [decide_eq_true_iff]

theorem State.plInFrame_iff {s : State} : s.plInFrame = true ↔ 15 ≤ s.flen ∧ s.l4 + 13 ≤ s.flen := by
  unfold State.plInFrame; rw [Bool.and_eq_true, decide_eq_true_iff, State.l4InFrame_iff]

/-- Reading a field whose frame-bound check says what `p` says. -/
theorem State.readField_of_iff {f : Field} {s : State} {p : Prop} [Decidable p] (h : s.fieldInFrame f = true ↔ p) :
    s.readField f = if p then some (s.fieldValue f) else none := by
  unfold State.readField
  by_cases hp : p
  · rw [if_pos hp, if_pos (h.2 hp)]
  · rw [if_neg hp, if_neg (fun hh => hp (h.1 hh))]

theorem State.fieldInFrame_le {f : Field} {s : State} (h : s.fieldInFrame f = true) :
    s.fieldAddr f + fieldBytes f ≤ s.flen := by
  unfold State.fieldInFrame at h; simp at h; exact h.2

/-! ### The bases -/

theorem State.l4_ge (s : State) : 14 ≤ s.l4 := by unfold State.l4 Config.ethHdr; omega

theorem State.l4_le (s : State) : s.l4 ≤ 74 := by
  unfold State.l4 Config.ethHdr State.loNibble
  have := Nat.mod_lt (s.byteAt 14).toNat (by norm_num : 16 > 0)
  omega

/-- `L4` from the byte that holds it. -/
theorem State.l4_congr {s t : State} (h : s.byteAt 14 = t.byteAt 14) : s.l4 = t.l4 := by
  simp [State.l4, State.loNibble, h]

/-- `PL` from the bytes that hold it. -/
theorem State.pl_congr {s t : State} (h : s.byteAt 14 = t.byteAt 14) (h2 : s.byteAt (s.l4 + 12) = t.byteAt (s.l4 + 12)) :
    s.pl = t.pl := by
  simp only [State.pl, State.l4_congr h] at *
  simp [State.hiNibble, h2]

end Sys2Proof.Machine
end

