-- ==== Sys2Proof/Laws/Composites.lean ====
section
/-! SUPPORT. What each composite checksum leaves and answers (R163 to R167), in closed form. -/

namespace Sys2Proof.Machine

/-- Four times a nibble is even. -/
theorem four_mul_mod_two (h : Nat) : decide (4 * h % 2 = 1) = false := by
  simp; omega

theorem State.readRegion_of_le {a n : Nat} {s : State} (h : a + n ≤ s.flen) : s.readRegion a n = some (s.bytesAt a n) := by
  simp [State.readRegion, h]

theorem State.readRegion_of_lt {a n : Nat} {s : State} (h : s.flen < a + n) : s.readRegion a n = none := by
  simp [State.readRegion]; omega

theorem State.flen_lt (s : State) : s.flen < 65536 := s.frameLen.isLt

/-! ### The fields the composites read -/

theorem State.fieldInFrame_l3 {f : Field} {s : State} (h : (fieldDesc f).base = .l3) :
    s.fieldInFrame f = true ↔ 14 + (fieldDesc f).off + fieldBytes f ≤ s.flen := by
  rw [State.fieldInFrame_iff]; unfold State.fieldAddr; rw [h]; simp [State.baseInFrame, State.baseAddr, Config.ethHdr]

theorem State.fieldInFrame_eth {f : Field} {s : State} (h : (fieldDesc f).base = .eth) :
    s.fieldInFrame f = true ↔ (fieldDesc f).off + fieldBytes f ≤ s.flen := by
  rw [State.fieldInFrame_iff]; unfold State.fieldAddr; rw [h]; simp [State.baseInFrame, State.baseAddr]

theorem State.fieldInFrame_l4 {f : Field} {s : State} (h : (fieldDesc f).base = .l4) :
    s.fieldInFrame f = true ↔ s.l4 + (fieldDesc f).off + fieldBytes f ≤ s.flen := by
  have h1 := s.l4_ge
  have h2 := (fieldBytes_le f).2
  rw [State.fieldInFrame_iff]; unfold State.fieldAddr; rw [h]
  simp only [State.baseInFrame, State.baseAddr, State.l4InFrame_iff]
  omega

theorem State.fieldInFrame_pl {f : Field} {s : State} (h : (fieldDesc f).base = .pl) :
    s.fieldInFrame f = true ↔ s.l4 + 13 ≤ s.flen ∧ s.pl + (fieldDesc f).off + fieldBytes f ≤ s.flen := by
  have h1 := s.l4_ge
  rw [State.fieldInFrame_iff]; unfold State.fieldAddr; rw [h]
  simp only [State.baseInFrame, State.baseAddr, State.plInFrame_iff]
  omega

theorem State.readField_ipIhl (s : State) : s.readField .ipIhl = if 15 ≤ s.flen then some (s.loNibble 14) else none :=
  State.readField_of_iff (State.fieldInFrame_l3 rfl)

theorem State.readField_ipLen (s : State) : s.readField .ipLen = if 18 ≤ s.flen then some (s.memRead 16 2) else none :=
  State.readField_of_iff (State.fieldInFrame_l3 rfl)

theorem State.readField_udpLen (s : State) :
    s.readField .udpLen = if s.l4 + 6 ≤ s.flen then some (s.memRead (s.l4 + 4) 2) else none :=
  State.readField_of_iff (State.fieldInFrame_l4 rfl)

theorem State.readField_tcpDoff (s : State) :
    s.readField .tcpDoff = if s.l4 + 13 ≤ s.flen then some (s.hiNibble (s.l4 + 12)) else none :=
  State.readField_of_iff (State.fieldInFrame_l4 rfl)

/-- `TPL` (R111). -/
theorem State.tcpPayloadLen_eq (s : State) :
    s.tcpPayloadLen =
      if s.l4 + 13 ≤ s.flen then
        some ((s.memRead 16 2 : Int) - 4 * s.loNibble 14 - 4 * s.hiNibble (s.l4 + 12))
      else none := by
  have := s.l4_ge
  unfold State.tcpPayloadLen
  rw [State.readField_ipLen, State.readField_ipIhl, State.readField_tcpDoff]
  by_cases h : s.l4 + 13 ≤ s.flen
  · rw [if_pos h, if_pos (by omega), if_pos (by omega), if_pos h]
  · rw [if_neg h, if_neg h]; split <;> simp_all

/-- The IP payload length (R164, R167). -/
theorem State.ipPayloadLen_eq (s : State) :
    s.ipPayloadLen =
      if 18 ≤ s.flen ∧ 4 * s.loNibble 14 ≤ s.memRead 16 2 then some (s.memRead 16 2 - 4 * s.loNibble 14) else none := by
  unfold State.ipPayloadLen
  rw [State.readField_ipLen, State.readField_ipIhl]
  by_cases h : 18 ≤ s.flen
  · rw [if_pos h, if_pos (by omega)]; simp [h]
  · rw [if_neg h]; simp [h]

/-- The last accumulation of a composite, in frame. -/
theorem ckLast_of_le {s : State} {a n m : Nat} (h : a + n ≤ s.flen) (hm : m ≤ 1048576) :
    ckLast s a n ⟨BitVec.ofNat 32 m, false⟩ =
      ⟨⟨BitVec.ofNat 32 (onesFold (m + s.frameSum a n)), decide (n % 2 = 1)⟩,
        some (BitVec.ofNat 16 (65535 - onesFold (m + s.frameSum a n)))⟩ := by
  have h1 := s.frameSum_le a n
  have h2 := s.flen_lt
  rw [ckLast, State.readRegion_of_le h]
  simp only
  rw [Acc.bytesAt_of, ckFinish_of_sum (by omega)]

theorem ckLast_of_lt {s : State} {a n : Nat} {c : Acc} (h : s.flen < a + n) : ckLast s a n c = ⟨c, none⟩ := by
  rw [ckLast, State.readRegion_of_lt h]

/-- `ck_ip()`, all it can do (R163, R326). -/
theorem ckIp_eq (s : State) :
    ckIp s =
      if s.flen < 15 then ⟨s.acc, none⟩
      else if s.flen < 14 + 4 * s.loNibble 14 then ⟨.zero, none⟩
      else
        ⟨⟨BitVec.ofNat 32 (onesFold (s.frameSum 14 (4 * s.loNibble 14))), false⟩,
          some (BitVec.ofNat 16 (65535 - onesFold (s.frameSum 14 (4 * s.loNibble 14))))⟩ := by
  rw [ckIp, State.readField_ipIhl]
  by_cases h : s.flen < 15
  · rw [if_pos h, if_neg (by omega)]
  · rw [if_neg h, if_pos (by omega)]
    by_cases h2 : s.flen < 14 + 4 * s.loNibble 14
    · rw [if_pos h2]; simp only; rw [ckLast_of_lt h2]
    · rw [if_neg h2]; simp only
      have := ckLast_of_le (s := s) (a := 14) (n := 4 * s.loNibble 14) (m := 0) (by omega) (by norm_num)
      simp only [four_mul_mod_two, Nat.zero_add] at this
      exact this

/-- The pseudo-header and the segment, all it can do (R166). -/
theorem ckTransport_eq (s : State) (proto : BitVec 16) (n : Nat) (hn : n < 65536) :
    ckTransport s proto n =
      if s.flen < 34 then ⟨.zero, none⟩
      else if s.flen < s.l4 + n then ⟨⟨BitVec.ofNat 32 (s.frameSum 26 8 + proto.toNat + n), false⟩, none⟩
      else
        ⟨⟨BitVec.ofNat 32 (onesFold (s.frameSum 26 8 + proto.toNat + n + s.frameSum s.l4 n)), decide (n % 2 = 1)⟩,
          some (BitVec.ofNat 16 (65535 - onesFold (s.frameSum 26 8 + proto.toNat + n + s.frameSum s.l4 n)))⟩ := by
  have hf := s.frameSum_le 26 8
  have hp := proto.isLt
  rw [ckTransport]
  by_cases h : s.flen < 34
  · rw [if_pos h, State.readRegion_of_lt (by omega)]
  · rw [if_neg h, State.readRegion_of_le (by omega)]
    simp only
    rw [Acc.zero_bytesAt]
    rw [show decide (8 % 2 = 1) = false from rfl, Acc.word_of, Acc.word_of, BitVec.toNat_ofNat, Nat.mod_eq_of_lt hn]
    by_cases h2 : s.flen < s.l4 + n
    · rw [if_pos h2, ckLast_of_lt h2]
    · rw [if_neg h2, ckLast_of_le (by omega) (by omega)]

/-- `ck_udp()`, all it can do (R165, R326). -/
theorem ckUdp_eq (s : State) :
    ckUdp s =
      if s.flen < s.l4 + 6 ∨ s.memRead (s.l4 + 4) 2 < 8 then ⟨s.acc, none⟩
      else ckTransport s 0x0011 (s.memRead (s.l4 + 4) 2) := by
  rw [ckUdp, State.readField_udpLen]
  by_cases h : s.l4 + 6 ≤ s.flen
  · rw [if_pos h]
    by_cases h2 : s.memRead (s.l4 + 4) 2 < 8
    · simp [h2]
    · simp [h2]; omega
  · rw [if_neg h, if_pos (by omega)]

/-- `ck_tcp()`, all it can do (R167). -/
theorem ckTcp_eq (s : State) :
    ckTcp s =
      if s.flen < 18 ∨ s.memRead 16 2 < 4 * s.loNibble 14 + 20 then ⟨s.acc, none⟩
      else ckTransport s 0x0006 (s.memRead 16 2 - 4 * s.loNibble 14) := by
  rw [ckTcp, State.ipPayloadLen_eq]
  by_cases h : s.flen < 18 ∨ s.memRead 16 2 < 4 * s.loNibble 14 + 20
  · rw [if_pos h]
    by_cases h2 : 18 ≤ s.flen ∧ 4 * s.loNibble 14 ≤ s.memRead 16 2
    · rw [if_pos h2]; simp only; rw [if_pos (by omega)]
    · rw [if_neg h2]
  · rw [if_neg h, if_pos (by omega)]; simp only; rw [if_neg (by omega)]

/-- The generating form of the ICMP checksum, all it can do in frame (R164). -/
theorem ckIcmpGen_of_le {s : State} {n : Nat} (hn : 8 ≤ n) (h : s.l4 + n ≤ s.flen) :
    ckIcmpGen s n =
      ⟨⟨BitVec.ofNat 32 (onesFold (s.frameSum s.l4 2 + s.frameSum (s.l4 + 4) (n - 4))), decide (n % 2 = 1)⟩,
        some (BitVec.ofNat 16 (65535 - onesFold (s.frameSum s.l4 2 + s.frameSum (s.l4 + 4) (n - 4))))⟩ := by
  have h1 := s.frameSum_le s.l4 2
  rw [ckIcmpGen, State.readRegion_of_le (by omega)]
  simp only
  rw [Acc.zero_bytesAt, show decide (2 % 2 = 1) = false from rfl, ckLast_of_le (by omega) (by omega),
    show decide ((n - 4) % 2 = 1) = decide (n % 2 = 1) by congr 1; apply propext; omega]

end Sys2Proof.Machine
end

