-- ==== Sys2Proof/Laws/Builders.lean ====
section
/-! SUPPORT. What the shared operations of the builders do: the seal of an IP header, and the TCP segment emitter. -/

namespace Sys2Proof.Machine

/-! ### The fields that builders store, as writes of numbers -/

theorem State.storeField_ipCsum (v : Nat) (s : State) : s.storeField .ipCsum v = s.memWrite 24 2 v := rfl
theorem State.storeField_ipLen (v : Nat) (s : State) : s.storeField .ipLen v = s.memWrite 16 2 v := rfl
theorem State.storeField_icmpType (v : Nat) (s : State) : s.storeField .icmpType v = s.memWrite s.l4 1 v := rfl
theorem State.storeField_icmpCsum (v : Nat) (s : State) : s.storeField .icmpCsum v = s.memWrite (s.l4 + 2) 2 v := rfl
theorem State.storeField_udpLen (v : Nat) (s : State) : s.storeField .udpLen v = s.memWrite (s.l4 + 4) 2 v := rfl
theorem State.storeField_udpCsum (v : Nat) (s : State) : s.storeField .udpCsum v = s.memWrite (s.l4 + 6) 2 v := rfl
theorem State.storeField_tcpCsum (v : Nat) (s : State) : s.storeField .tcpCsum v = s.memWrite (s.l4 + 16) 2 v := rfl

/-! ### What a state's functions of the bytes keep under the updates that change no byte -/

@[simp] theorem State.memRead_withAcc (c : Acc) (s : State) (a n : Nat) : (s.withAcc c).memRead a n = s.memRead a n := rfl
@[simp] theorem State.memRead_clearCls (s : State) (a n : Nat) : s.clearCls.memRead a n = s.memRead a n := rfl
@[simp] theorem State.memRead_done (v : Data) (s : State) (a n : Nat) : (s.done v).memRead a n = s.memRead a n := rfl
@[simp] theorem State.memRead_setFlen (m : Nat) (s : State) (a n : Nat) : (s.setFlen m).memRead a n = s.memRead a n := rfl
@[simp] theorem State.frameSum_withAcc (c : Acc) (s : State) (a n : Nat) :
    (s.withAcc c).frameSum a n = s.frameSum a n := rfl
@[simp] theorem State.frameSum_clearCls (s : State) (a n : Nat) : s.clearCls.frameSum a n = s.frameSum a n := rfl
@[simp] theorem State.frameSum_done (v : Data) (s : State) (a n : Nat) : (s.done v).frameSum a n = s.frameSum a n := rfl
@[simp] theorem State.frameSum_setFlen (m : Nat) (s : State) (a n : Nat) :
    (s.setFlen m).frameSum a n = s.frameSum a n := rfl
@[simp] theorem State.l4_withAcc (c : Acc) (s : State) : (s.withAcc c).l4 = s.l4 := rfl
@[simp] theorem State.l4_clearCls (s : State) : s.clearCls.l4 = s.l4 := rfl
@[simp] theorem State.l4_done (v : Data) (s : State) : (s.done v).l4 = s.l4 := rfl
@[simp] theorem State.l4_setFlen (m : Nat) (s : State) : (s.setFlen m).l4 = s.l4 := rfl
@[simp] theorem State.loNibble_withAcc (c : Acc) (s : State) (a : Nat) : (s.withAcc c).loNibble a = s.loNibble a := rfl
@[simp] theorem State.loNibble_setFlen (m : Nat) (s : State) (a : Nat) : (s.setFlen m).loNibble a = s.loNibble a := rfl

theorem State.l4_memWrite_of_not {a n v : Nat} {s : State} (h : ¬ (a ≤ 14 ∧ 14 < a + n)) : (s.memWrite a n v).l4 = s.l4 :=
  State.l4_congr (State.byteAt_memWrite_of_not h)

theorem State.loNibble_memWrite_of_not {a n v x : Nat} {s : State} (h : ¬ (a ≤ x ∧ x < a + n)) :
    (s.memWrite a n v).loNibble x = s.loNibble x := by
  simp [State.loNibble, State.byteAt_memWrite_of_not h]

/-! ### Checksum fields -/

/-- Writing the result of a composite that did not fail. -/
theorem storeChecksum_some {f : Field} {c : Acc} {r : BitVec 16} {s : State} :
    storeChecksum f ⟨c, some r⟩ s = some ((s.withAcc c).storeField f r.toNat) := rfl

theorem storeChecksum_none {f : Field} {c : Acc} {s : State} : storeChecksum f ⟨c, none⟩ s = none := rfl

/-- The number a composite's result is. -/
theorem checksum_toNat (n : Nat) : (BitVec.ofNat 16 (65535 - onesFold n)).toNat = 65535 - onesFold n := by
  simp only [BitVec.toNat_ofNat]; omega

/-- A region that holds a two-byte zero at an even position sums as the two parts around it (R158(c)). -/
theorem State.frameSum_skip {s : State} {a k m : Nat} (hk : k % 2 = 0) (h0 : s.memRead (a + k) 2 = 0) :
    s.frameSum a (k + 2 + m) = s.frameSum a k + s.frameSum (a + k + 2) m := by
  rw [Nat.add_assoc, State.frameSum_add _ _ _ _ hk, State.frameSum_add _ _ _ _ (by rfl), State.frameSum_two, h0]
  omega

/-- A region whose two-byte field at an even position holds the checksum of the rest, with anything summed before it,
verifies (R159, R160). -/
theorem State.frameSum_verifies {s : State} {a k m r : Nat} (hk : k % 2 = 0)
    (hc : s.memRead (a + k) 2 = 65535 - onesFold (r + s.frameSum a k + s.frameSum (a + k + 2) m)) :
    onesFold (r + s.frameSum a (k + 2 + m)) = 65535 := by
  rw [Nat.add_assoc k 2 m, State.frameSum_add _ _ _ _ hk, State.frameSum_add _ _ _ _ (by rfl), State.frameSum_two, hc]
  have := onesFold_verify (r + s.frameSum a k + s.frameSum (a + k + 2) m)
  rw [← this]; congr 1; omega

/-- An ARP request has 42 bytes (R345). -/
theorem arpRequestFrame_length (mac : Mac) (ip target : Ip4) : (arpRequestFrame mac ip target).length = 42 := by
  simp only [arpRequestFrame, List.length_append, beBytes_length]

/-! ### The emitter (R350) -/

theorem segmentFrame_length (p : Config.Params) (mac : Mac) (ip : Ip4) (g : Segment) :
    (segmentFrame p mac ip g).length = 34 + g.tcpLen := by
  simp [segmentFrame, Segment.tcpLen]; omega

/-- What follows the fixed headers of a segment's frame. -/
theorem segmentFrame_drop (p : Config.Params) (mac : Mac) (ip : Ip4) (g : Segment) :
    (segmentFrame p mac ip g).drop 54 = g.opts ++ g.payload := by
  simp [segmentFrame, beBytes]

/-- The frame of a segment laid in the buffer, with both checksum fields 0 (R350). -/
def Segment.laid (g : Segment) (s : State) : State :=
  (s.storeBytes 0 (segmentFrame s.params s.localMac s.localIp g)).setFlen (34 + g.tcpLen)

theorem Segment.tcpLen_ge (g : Segment) : 20 ≤ g.tcpLen := by unfold Segment.tcpLen; omega

theorem Segment.laid_flen (g : Segment) (s : State) (h : 34 + g.tcpLen ≤ 1522) : (g.laid s).flen = 34 + g.tcpLen :=
  State.flen_setFlen (by omega) _

/-- A number of the fixed headers, in the frame laid. -/
theorem Segment.laid_read {g : Segment} {s : State} {a n v : Nat}
    (h : ((segmentFrame s.params s.localMac s.localIp g).drop a).take n = beBytes n v) (ha : a + n ≤ 54)
    (hv : v < 256 ^ n) : (g.laid s).memRead a n = v := by
  have := g.tcpLen_ge
  unfold Segment.laid
  rw [State.memRead_setFlen]
  exact State.memRead_storeBytes_zero (by rw [segmentFrame_length]; omega) h hv

/-- A byte of the fixed headers, in the frame laid. -/
theorem Segment.laid_byteAt {g : Segment} {s : State} {a : Nat} {b : Byte}
    (h : (segmentFrame s.params s.localMac s.localIp g)[a]? = some b) : (g.laid s).byteAt a = b := by
  obtain ⟨h1, h2⟩ := List.getElem?_eq_some_iff.1 h
  unfold Segment.laid
  rw [State.byteAt_setFlen, State.byteAt_storeBytes, if_pos (by omega), Nat.sub_zero, List.getD_eq_getElem _ _ h1, h2]

/-! The fixed headers of the frame laid, field by field (R350). -/

theorem Segment.laid_ethDst (g : Segment) (s : State) :
    (g.laid s).memRead 0 6 = s.params.peerMac.toNat :=
  laid_read (by simp [segmentFrame, beBytes]) (by norm_num) s.params.peerMac.isLt

theorem Segment.laid_ethSrc (g : Segment) (s : State) :
    (g.laid s).memRead 6 6 = s.localMac.toNat :=
  laid_read (by simp [segmentFrame, beBytes]) (by norm_num) s.localMac.isLt

theorem Segment.laid_ethType (g : Segment) (s : State) :
    (g.laid s).memRead 12 2 = 0x0800 :=
  laid_read (by simp [segmentFrame, beBytes]) (by norm_num) (by norm_num)

theorem Segment.laid_ipLen (g : Segment) (s : State) (hlen : 34 + g.tcpLen ≤ 1522) :
    (g.laid s).memRead 16 2 = 20 + g.tcpLen :=
  laid_read (by simp [segmentFrame, beBytes]) (by norm_num) (by omega)

theorem Segment.laid_ipId (g : Segment) (s : State) :
    (g.laid s).memRead 18 2 = s.params.ipId.toNat :=
  laid_read (by simp [segmentFrame, beBytes]) (by norm_num) s.params.ipId.isLt

theorem Segment.laid_flagsFrag (g : Segment) (s : State) :
    (g.laid s).memRead 20 2 = s.params.ipFlagsFrag.toNat :=
  laid_read (by simp [segmentFrame, beBytes]) (by norm_num) s.params.ipFlagsFrag.isLt

theorem Segment.laid_ipCsum (g : Segment) (s : State) :
    (g.laid s).memRead 24 2 = 0 :=
  laid_read (by simp [segmentFrame, beBytes]) (by norm_num) (by norm_num)

theorem Segment.laid_ipSrc (g : Segment) (s : State) :
    (g.laid s).memRead 26 4 = s.localIp.toNat :=
  laid_read (by simp [segmentFrame, beBytes]) (by norm_num) s.localIp.isLt

theorem Segment.laid_ipDst (g : Segment) (s : State) :
    (g.laid s).memRead 30 4 = s.params.peerIp.toNat :=
  laid_read (by simp [segmentFrame, beBytes]) (by norm_num) s.params.peerIp.isLt

theorem Segment.laid_sport (g : Segment) (s : State) :
    (g.laid s).memRead 34 2 = g.sport.toNat :=
  laid_read (by simp [segmentFrame, beBytes]) (by norm_num) g.sport.isLt

theorem Segment.laid_dport (g : Segment) (s : State) :
    (g.laid s).memRead 36 2 = g.dport.toNat :=
  laid_read (by simp [segmentFrame, beBytes]) (by norm_num) g.dport.isLt

theorem Segment.laid_seq (g : Segment) (s : State) :
    (g.laid s).memRead 38 4 = g.seq.toNat :=
  laid_read (by simp [segmentFrame, beBytes]) (by norm_num) g.seq.isLt

theorem Segment.laid_ack (g : Segment) (s : State) :
    (g.laid s).memRead 42 4 = g.ack.toNat :=
  laid_read (by simp [segmentFrame, beBytes]) (by norm_num) g.ack.isLt

theorem Segment.laid_offsFlags (g : Segment) (s : State) (ho : g.opts.length ≤ 40)
    (hf : g.flags < 4096) :
    (g.laid s).memRead 46 2 = 4096 * (5 + g.opts.length / 4) + g.flags :=
  laid_read (by simp [segmentFrame, beBytes]) (by norm_num) (by omega)

theorem Segment.laid_window (g : Segment) (s : State) :
    (g.laid s).memRead 48 2 = s.params.tcpWindow.toNat :=
  laid_read (by simp [segmentFrame, beBytes]) (by norm_num) s.params.tcpWindow.isLt

theorem Segment.laid_tcpCsum (g : Segment) (s : State) :
    (g.laid s).memRead 50 2 = 0 :=
  laid_read (by simp [segmentFrame, beBytes]) (by norm_num) (by norm_num)

theorem Segment.laid_urg (g : Segment) (s : State) :
    (g.laid s).memRead 52 2 = 0 :=
  laid_read (by simp [segmentFrame, beBytes]) (by norm_num) (by norm_num)

theorem beBytes_one (b : Byte) : beBytes 1 b.toNat = [b] := by simp [beBytes]

/-- The single bytes of the fixed headers of the frame laid (R350). -/
theorem Segment.laid_header_bytes (g : Segment) (s : State) :
    (g.laid s).byteAt 14 = 0x45 ∧ (g.laid s).byteAt 15 = s.params.ipTos ∧ (g.laid s).byteAt 22 = s.params.ipTtl ∧
    (g.laid s).byteAt 23 = 6 := by
  refine ⟨laid_byteAt rfl, laid_byteAt ?_, laid_byteAt ?_, laid_byteAt rfl⟩
  · show (beBytes 1 s.params.ipTos.toNat)[0]? = _
    rw [beBytes_one]; rfl
  · show (beBytes 1 s.params.ipTtl.toNat)[0]? = _
    rw [beBytes_one]; rfl

/-- What follows the fixed headers in the frame laid. -/
theorem Segment.laid_tail {g : Segment} {s : State} {k : Nat} (hk : 54 + k < 34 + g.tcpLen) :
    (g.opts ++ g.payload)[k]? = some ((g.laid s).byteAt (54 + k)) := by
  have hl := segmentFrame_length s.params s.localMac s.localIp g
  rw [Segment.laid, State.byteAt_setFlen, State.byteAt_storeBytes, if_pos (by omega),
    ← segmentFrame_drop s.params s.localMac s.localIp g, List.getElem?_drop, List.getD_eq_getElem _ _ (by omega),
    List.getElem?_eq_getElem (by omega)]
  simp

/-- The IP checksum over the frame laid. -/
theorem Segment.laid_ckIp (g : Segment) (s : State) (hlen : 34 + g.tcpLen ≤ 1522) :
    ckIp (g.laid s) =
      ⟨⟨BitVec.ofNat 32 (onesFold ((g.laid s).frameSum 14 10 + (g.laid s).frameSum 26 8)), false⟩,
        some (BitVec.ofNat 16 (65535 - onesFold ((g.laid s).frameSum 14 10 + (g.laid s).frameSum 26 8)))⟩ := by
  have hT := g.tcpLen_ge
  have hlo : (g.laid s).loNibble 14 = 5 := by unfold State.loNibble; rw [(g.laid_header_bytes s).1]; rfl
  have h0 : (g.laid s).memRead 24 2 = 0 := g.laid_ipCsum s
  have hs : (g.laid s).frameSum 14 20 = _ := State.frameSum_skip (a := 14) (k := 10) (m := 8) rfl h0
  rw [ckIp_eq, g.laid_flen s hlen, if_neg (by omega), hlo, if_neg (by omega), show 4 * 5 = 20 from rfl, hs]

/-- The frame laid, with its IP checksum. -/
def Segment.sealed (g : Segment) (s : State) : State :=
  ((g.laid s).withAcc (ckIp (g.laid s)).acc).memWrite 24 2
    (65535 - onesFold ((g.laid s).frameSum 14 10 + (g.laid s).frameSum 26 8))

theorem Segment.storeChecksum_ip (g : Segment) (s : State) (hlen : 34 + g.tcpLen ≤ 1522) :
    storeChecksum .ipCsum (ckIp (g.laid s)) (g.laid s) = some (g.sealed s) := by
  unfold Segment.sealed
  rw [g.laid_ckIp s hlen, storeChecksum_some, State.storeField_ipCsum, checksum_toNat]

theorem Segment.sealed_byteAt {g : Segment} {s : State} {x : Nat} (h : ¬ (24 ≤ x ∧ x < 26)) :
    (g.sealed s).byteAt x = (g.laid s).byteAt x := by
  unfold Segment.sealed; rw [State.byteAt_memWrite_of_not (by omega), State.byteAt_withAcc]

theorem Segment.sealed_flen (g : Segment) (s : State) (hlen : 34 + g.tcpLen ≤ 1522) :
    (g.sealed s).flen = 34 + g.tcpLen := by
  unfold Segment.sealed; rw [State.flen_memWrite, State.flen_withAcc, g.laid_flen s hlen]

theorem Segment.sealed_l4 (g : Segment) (s : State) : (g.sealed s).l4 = 34 := by
  unfold State.l4 State.loNibble; rw [sealed_byteAt (by omega), (g.laid_header_bytes s).1]; rfl

/-- The sum that the TCP checksum is taken of (R158, R167). -/
def Segment.tcpSum (g : Segment) (t : State) : Nat :=
  t.frameSum 26 8 + 6 + g.tcpLen + t.frameSum 34 16 + t.frameSum 52 (g.tcpLen - 18)

/-- The TCP checksum over the sealed frame. -/
theorem Segment.sealed_ckTcp (g : Segment) (s : State) (hlen : 34 + g.tcpLen ≤ 1522) :
    ckTcp (g.sealed s) =
      ⟨⟨BitVec.ofNat 32 (onesFold (g.tcpSum (g.sealed s))), decide (g.tcpLen % 2 = 1)⟩,
        some (BitVec.ofNat 16 (65535 - onesFold (g.tcpSum (g.sealed s))))⟩ := by
  have hT := g.tcpLen_ge
  have hlo : (g.sealed s).loNibble 14 = 5 := by
    unfold State.loNibble; rw [sealed_byteAt (by omega), (g.laid_header_bytes s).1]; rfl
  have hl : (g.sealed s).memRead 16 2 = 20 + g.tcpLen :=
    (State.memRead_congr fun k hk => sealed_byteAt (by omega)).trans (g.laid_ipLen s hlen)
  have h0 : (g.sealed s).memRead (34 + 16) 2 = 0 :=
    (State.memRead_congr fun k hk => sealed_byteAt (by omega)).trans (g.laid_tcpCsum s)
  have hs := State.frameSum_skip (m := g.tcpLen - 18) (k := 16) rfl h0
  rw [show 16 + 2 + (g.tcpLen - 18) = g.tcpLen by omega] at hs
  rw [ckTcp_eq, g.sealed_flen s hlen, hl, hlo, if_neg (by omega), show 20 + g.tcpLen - 4 * 5 = g.tcpLen by omega,
    ckTransport_eq _ _ _ (by omega), g.sealed_flen s hlen, if_neg (by omega), g.sealed_l4, if_neg (by omega), hs,
    ← Nat.add_assoc]
  rfl

/-- The frame sealed, with its TCP checksum: what the emitter leaves. -/
def Segment.emitted (g : Segment) (s : State) : State :=
  ((g.sealed s).withAcc (ckTcp (g.sealed s)).acc).memWrite 50 2 (65535 - onesFold (g.tcpSum (g.sealed s)))

theorem Segment.storeChecksum_tcp (g : Segment) (s : State) (hlen : 34 + g.tcpLen ≤ 1522) :
    storeChecksum .tcpCsum (ckTcp (g.sealed s)) (g.sealed s) = some (g.emitted s) := by
  unfold Segment.emitted
  rw [g.sealed_ckTcp s hlen, storeChecksum_some, State.storeField_tcpCsum, checksum_toNat, State.l4_withAcc, g.sealed_l4]

theorem Segment.emitted_byteAt {g : Segment} {s : State} {x : Nat} (h : ¬ (50 ≤ x ∧ x < 52)) :
    (g.emitted s).byteAt x = (g.sealed s).byteAt x := by
  unfold Segment.emitted; rw [State.byteAt_memWrite_of_not (by omega), State.byteAt_withAcc]

theorem Segment.emitted_byteAt_laid {g : Segment} {s : State} {x : Nat} (h : ¬ (50 ≤ x ∧ x < 52))
    (h2 : ¬ (24 ≤ x ∧ x < 26)) : (g.emitted s).byteAt x = (g.laid s).byteAt x :=
  (emitted_byteAt h).trans (sealed_byteAt h2)

theorem Segment.emitted_memRead {g : Segment} {s : State} {a n v : Nat} (h : (g.laid s).memRead a n = v)
    (h1 : a + n ≤ 24 ∨ 26 ≤ a) (h2 : a + n ≤ 50 ∨ 52 ≤ a) : (g.emitted s).memRead a n = v :=
  (State.memRead_congr fun k hk => emitted_byteAt_laid (by omega) (by omega)).trans h

theorem Segment.tcpSum_emitted (g : Segment) (s : State) : g.tcpSum (g.emitted s) = g.tcpSum (g.sealed s) := by
  have : ∀ a n, (a + n ≤ 50 ∨ 52 ≤ a) → (g.emitted s).frameSum a n = (g.sealed s).frameSum a n :=
    fun a n h => State.frameSum_congr fun k hk => emitted_byteAt (by omega)
  unfold Segment.tcpSum
  rw [this 26 8 (by omega), this 34 16 (by omega), this 52 _ (by omega)]

/-- What the emitter leaves, register by register. -/
theorem Segment.emitted_eq (g : Segment) (s : State) :
    g.emitted s =
      { s with
        buf := (g.emitted s).buf, frameLen := BitVec.ofNat 16 (34 + g.tcpLen), sum := (g.emitted s).sum,
        phase := (g.emitted s).phase } := by
  have h : ∀ (F : List Byte) (n v w : Nat) (c d : Acc),
      (((((s.storeBytes 0 F).setFlen n).withAcc c).memWrite 24 2 v).withAcc d).memWrite 50 2 w =
        { s with
          buf := ((((((s.storeBytes 0 F).setFlen n).withAcc c).memWrite 24 2 v).withAcc d).memWrite 50 2 w).buf
          frameLen := BitVec.ofNat 16 n, sum := d.sum, phase := d.phase } := fun _ _ _ _ _ _ => rfl
  exact h _ _ _ _ _ _

/-- `emit_tcp` as one equation, when the frame fits. -/
theorem emitTcp_eq (g : Segment) (s : State) (hlen : 34 + g.tcpLen ≤ 1522) :
    emitTcp g s = (g.emitted s).clearCls.done (BitVec.ofNat 48 (34 + g.tcpLen)) := by
  have hw : (g.emitted s).frameLen.setWidth 48 = BitVec.ofNat 48 (34 + g.tcpLen) := by
    rw [g.emitted_eq s]
    apply BitVec.eq_of_toNat_eq; simp; omega
  have hd : emitTcp g s =
      endBuild s ((storeChecksum .ipCsum (ckIp (g.laid s)) (g.laid s)).bind
        (fun t => storeChecksum .tcpCsum (ckTcp t) t)) := by
    unfold emitTcp Segment.laid
    rw [if_neg (by unfold Config.bufCap; omega)]
  rw [hd, g.storeChecksum_ip s hlen, Option.bind_some, g.storeChecksum_tcp s hlen, endBuild, hw]

/-- What the emitter leaves carries the segment (R350). -/
theorem Segment.emitted_carries (g : Segment) (s : State) (hlen : 34 + g.tcpLen ≤ 1522) (ho : g.opts.length ≤ 40)
    (hf : g.flags < 4096) : (g.emitted s).Carries s g := by
  have hl : g.tcpLen = 20 + g.opts.length + g.payload.length := rfl
  obtain ⟨b0, b1, b2, b3⟩ := g.laid_header_bytes s
  have fs : ∀ a n, (a + n ≤ 24 ∨ 26 ≤ a) → (a + n ≤ 50 ∨ 52 ≤ a) →
      (g.emitted s).frameSum a n = (g.laid s).frameSum a n :=
    fun a n h1 h2 => State.frameSum_congr fun k hk => emitted_byteAt_laid (by omega) (by omega)
  have hsum : onesFold (g.tcpSum (g.emitted s)) = onesFold (g.tcpSum (g.sealed s)) := by rw [g.tcpSum_emitted s]
  refine
    { ethDst := emitted_memRead (g.laid_ethDst s) (by omega) (by omega), ethSrc := emitted_memRead (g.laid_ethSrc s) (by omega) (by omega)
      ethType := emitted_memRead (g.laid_ethType s) (by omega) (by omega)
      verIhl := (emitted_byteAt_laid (by omega) (by omega)).trans b0
      tos := (emitted_byteAt_laid (by omega) (by omega)).trans b1
      ipLen := emitted_memRead (g.laid_ipLen s hlen) (by omega) (by omega), ipId := emitted_memRead (g.laid_ipId s) (by omega) (by omega)
      flagsFrag := emitted_memRead (g.laid_flagsFrag s) (by omega) (by omega)
      ttl := (emitted_byteAt_laid (by omega) (by omega)).trans b2
      proto := (emitted_byteAt_laid (by omega) (by omega)).trans b3
      ipCsum := ?_
      ipSrc := emitted_memRead (g.laid_ipSrc s) (by omega) (by omega), ipDst := emitted_memRead (g.laid_ipDst s) (by omega) (by omega)
      sport := emitted_memRead (g.laid_sport s) (by omega) (by omega), dport := emitted_memRead (g.laid_dport s) (by omega) (by omega)
      seq := emitted_memRead (g.laid_seq s) (by omega) (by omega), ack := emitted_memRead (g.laid_ack s) (by omega) (by omega)
      offsFlags := emitted_memRead (g.laid_offsFlags s ho hf) (by omega) (by omega), window := emitted_memRead (g.laid_window s) (by omega) (by omega)
      tcpCsum := ?_
      urg := emitted_memRead (g.laid_urg s) (by omega) (by omega)
      opts := fun k hk => ?_
      payload := fun k hk => ?_
      rest := fun a ha => ?_
      acc := ⟨?_, ?_⟩ }
  · rw [fs 14 10 (by omega) (by omega), fs 26 8 (by omega) (by omega),
      State.memRead_congr (t := g.sealed s) (fun k hk => emitted_byteAt (by omega))]
    exact State.memRead_memWrite _ _ _ (by omega) _
  · show _ = 65535 - onesFold (g.tcpSum (g.emitted s))
    rw [hsum]
    exact State.memRead_memWrite _ _ _ (by omega) _
  · rw [← List.getElem?_append_left (l₂ := g.payload) hk, laid_tail (s := s) (by omega),
      emitted_byteAt_laid (by omega) (by omega)]
  · have := laid_tail (g := g) (s := s) (k := g.opts.length + k) (by omega)
    rw [List.getElem?_append_right (by omega), Nat.add_sub_cancel_left, ← Nat.add_assoc] at this
    rw [this, emitted_byteAt_laid (by omega) (by omega)]
  · rw [emitted_byteAt_laid (by omega) (by omega), Segment.laid, State.byteAt_setFlen,
      State.byteAt_storeBytes_of_not (by rw [segmentFrame_length]; omega)]
  · show _ = BitVec.ofNat 32 (onesFold (g.tcpSum (g.emitted s)))
    rw [hsum, show (g.emitted s).sum = (ckTcp (g.sealed s)).acc.sum from rfl, g.sealed_ckTcp s hlen]
  · rw [show (g.emitted s).phase = (ckTcp (g.sealed s)).acc.phase from rfl, g.sealed_ckTcp s hlen]

/-- The segment a state carries does not depend on the classification or on the ports. -/
theorem State.Carries.reply {t s : State} {g : Segment} (h : t.Carries s g) (v : Data) :
    (t.clearCls.done v).Carries s g := by
  have mr : ∀ a n, (t.clearCls.done v).memRead a n = t.memRead a n := fun a n => State.memRead_congr fun _ _ => rfl
  have fs : ∀ a n, (t.clearCls.done v).frameSum a n = t.frameSum a n := fun a n => State.frameSum_congr fun _ _ => rfl
  exact
    { verIhl := h.verIhl, tos := h.tos, ttl := h.ttl, proto := h.proto, opts := h.opts, payload := h.payload, rest := h.rest
      ethDst := (mr _ _).trans h.ethDst, ethSrc := (mr _ _).trans h.ethSrc, ethType := (mr _ _).trans h.ethType
      ipLen := (mr _ _).trans h.ipLen, ipId := (mr _ _).trans h.ipId, flagsFrag := (mr _ _).trans h.flagsFrag
      ipSrc := (mr _ _).trans h.ipSrc, ipDst := (mr _ _).trans h.ipDst, sport := (mr _ _).trans h.sport
      dport := (mr _ _).trans h.dport, seq := (mr _ _).trans h.seq, ack := (mr _ _).trans h.ack
      offsFlags := (mr _ _).trans h.offsFlags, window := (mr _ _).trans h.window, urg := (mr _ _).trans h.urg
      ipCsum := by rw [mr, fs, fs]; exact h.ipCsum
      tcpCsum := by rw [mr, fs, fs, fs]; exact h.tcpCsum
      acc := by rw [fs, fs, fs]; exact h.acc }

/-- `emit_tcp`, all it does when the frame fits: the frame of R350 with both checksums. -/
theorem emitTcp_spec (g : Segment) (s : State) (hlen : 34 + g.tcpLen ≤ 1522) (ho : g.opts.length ≤ 40)
    (hf : g.flags < 4096) :
    ∃ t, emitTcp g s = t ∧
      t = { s with
            buf := t.buf, frameLen := BitVec.ofNat 16 (34 + g.tcpLen), cls := 0, clsFresh := false, sum := t.sum,
            phase := t.phase, rdata := BitVec.ofNat 48 (34 + g.tcpLen), status := .ok } ∧
      t.Carries s g := by
  refine ⟨_, emitTcp_eq g s hlen, ?_, (g.emitted_carries s hlen ho hf).reply _⟩
  have h := g.emitted_eq s
  generalize g.emitted s = e at h
  rw [h]; rfl

/-- `emit_tcp` of a frame that does not fit is a fault and no more (R342, R350). -/
theorem emitTcp_of_lt {g : Segment} {s : State} (h : 1522 < 34 + g.tcpLen) : emitTcp g s = s.raise .errBounds := by
  unfold emitTcp; rw [if_pos (by unfold Config.bufCap; omega)]

end Sys2Proof.Machine
end

