-- ==== Sys2Proof/Laws/Decode.lean ====
section
/-! SUPPORT. The laws of the command word: its three parts, its must-be-zero fields and its field ids. -/

namespace Sys2Proof

/-- A word packed from parts that fit decodes by its parts. -/
theorem decode_packCommand {op hi lo : Nat} (ho : op < 256) (hh : hi < 4096) (hl : lo < 4096) :
    decode (packCommand op hi lo) = decodeParts op hi lo := by
  have h : (BitVec.ofNat 32 (op * 16777216 + hi * 4096 + lo)).toNat = op * 16777216 + hi * 4096 + lo := by
    rw [BitVec.toNat_ofNat]; omega
  simp only [packCommand, decode, decodeCommand, cwOp, cwHi, cwLo, h]
  congr 1 <;> omega

/-- Packing the parts of a word gives the word. -/
theorem packCommand_parts (cw : BitVec 32) : packCommand (cwOp cw) (cwHi cw) (cwLo cw) = .command cw := by
  have := cw.isLt
  unfold packCommand cwOp cwHi cwLo
  congr 1
  apply BitVec.eq_of_toNat_eq
  rw [BitVec.toNat_ofNat]; omega

theorem cwOp_lt (cw : BitVec 32) : cwOp cw < 256 := by have := cw.isLt; unfold cwOp; omega
theorem cwHi_lt (cw : BitVec 32) : cwHi cw < 4096 := by unfold cwHi; omega
theorem cwLo_lt (cw : BitVec 32) : cwLo cw < 4096 := by unfold cwLo; omega

/-- A word whose zero fields are checked decodes only when they are zero. -/
theorem ifZero_eq_ok {z : Bool} {i j : Instr} : ifZero z i = .ok j ↔ z = true ∧ i = j := by
  unfold ifZero; cases z <;> simp

/-- The field of a field's own id. -/
theorem fieldOfFid_fid (f : Field) : fieldOfFid f.fid = some f := by cases f <;> rfl

/-- The id of the field that an id names. -/
theorem fid_of_fieldOfFid {n : Nat} {f : Field} (h : fieldOfFid n = some f) : f.fid = n := by
  unfold fieldOfFid at h
  split at h <;> first | (cases h; rfl) | cases h

theorem fid_lt (f : Field) : f.fid < 256 := by cases f <;> decide

/-- The word of every `GET` of a field (R121, R124). -/
theorem encode_getInstr (f : Field) : encode f.getInstr = packGet f.fid := by cases f <;> rfl

/-- The word of every `PUT` of a field (R121, R124). -/
theorem encode_putInstr (f : Field) : encode f.putInstr = packPut f.fid := by cases f <;> rfl

end Sys2Proof
end

