-- ==== Sys2Proof/Laws/Invariant.lean ====
section
/-! SUPPORT. The invariant of R453 under every named update: each keeps it, a store when it stays below `BUF_CAP` and a new
frame length when it is at most `BUF_CAP`. -/

namespace Sys2Proof.Machine

/-- The invariant depends on the buffer, the frame length and the session state only. -/
theorem State.Inv.of_eq {s t : State} (h : s.Inv) (hb : t.buf = s.buf) (hf : t.frameLen = s.frameLen)
    (hs : t.state.toNat ≤ 8) : t.Inv :=
  ⟨hb ▸ h.wf, hb ▸ h.inRange, by have := h.frameFits; simpa only [State.flen, hf] using this, hs⟩

theorem State.Inv.done {s : State} (h : s.Inv) (v : Data) : (s.done v).Inv := h.of_eq rfl rfl h.stateLegal
theorem State.Inv.raise {s : State} (h : s.Inv) (st : Status) : (s.raise st).Inv := h.of_eq rfl rfl h.stateLegal
theorem State.Inv.clearCls {s : State} (h : s.Inv) : s.clearCls.Inv := h.of_eq rfl rfl h.stateLegal
theorem State.Inv.withAcc {s : State} (h : s.Inv) (c : Acc) : (s.withAcc c).Inv := h.of_eq rfl rfl h.stateLegal
theorem State.Inv.setLatch {s : State} (h : s.Inv) (l : Latch) : (s.setLatch l).Inv := h.of_eq rfl rfl h.stateLegal
theorem State.Inv.present {s : State} (h : s.Inv) (c : Command) : (s.present c).Inv := h.of_eq rfl rfl h.stateLegal
theorem State.Inv.observe {s : State} (h : s.Inv) : s.observe.Inv := h.of_eq rfl rfl h.stateLegal
theorem State.Inv.withPending {s : State} (h : s.Inv) (l : List Stimulus) : (s.withPending l).Inv :=
  h.of_eq rfl rfl h.stateLegal

/-- A store below `BUF_CAP` keeps the invariant. -/
theorem State.Inv.storeBytes {s : State} (h : s.Inv) {a : Nat} {bs : List Byte} (ha : a + bs.length ≤ Config.bufCap) :
    (s.storeBytes a bs).Inv :=
  ⟨Memory.wf_insertAll bs h.wf a, Memory.inRange_insertAll bs h.inRange ha, h.frameFits, h.stateLegal⟩

/-- A frame length of at most `BUF_CAP` keeps the invariant. -/
theorem State.Inv.setFlen {s : State} (h : s.Inv) {n : Nat} (hn : n ≤ Config.bufCap) : (s.setFlen n).Inv := by
  refine ⟨h.wf, h.inRange, ?_, h.stateLegal⟩
  unfold Config.bufCap at *
  rw [State.flen_setFlen (by omega)]; exact hn

theorem State.Inv.memWrite {s : State} (h : s.Inv) {a n : Nat} (v : Nat) (ha : a + n ≤ Config.bufCap) :
    (s.memWrite a n v).Inv :=
  h.storeBytes (by rwa [beBytes_length])

theorem State.pl_le (s : State) : s.pl ≤ 134 := by
  have h1 := s.l4_le
  have h2 := (s.byteAt (s.l4 + 12)).isLt
  unfold State.pl State.hiNibble
  omega

/-- Every field lies far below `BUF_CAP`, wherever the frame's lengths put it. -/
theorem State.fieldAddr_le (f : Field) (s : State) : s.fieldAddr f + fieldBytes f ≤ 200 := by
  have h1 := s.l4_le
  have h2 := s.pl_le
  have h3 := (fieldBytes_le f).1
  have h4 : (fieldDesc f).off ≤ 24 := by cases f <;> decide
  unfold State.fieldAddr
  cases (fieldDesc f).base <;> simp only [State.baseAddr, Config.ethHdr] <;> omega

theorem State.Inv.storeField {s : State} (h : s.Inv) (f : Field) (v : Nat) : (s.storeField f v).Inv := by
  rw [State.storeField_eq]
  refine h.storeBytes ?_
  have := s.fieldAddr_le f
  rw [fieldImage_length]; unfold Config.bufCap; omega

theorem State.Inv.swapFields {s : State} (h : s.Inv) (f g : Field) : (s.swapFields f g).Inv := by
  have h1 := s.fieldAddr_le f
  have h2 := s.fieldAddr_le g
  unfold State.swapFields
  exact (h.memWrite _ (by unfold Config.bufCap; omega)).memWrite _ (by unfold Config.bufCap; omega)

/-- Writing a checksum field keeps the invariant. -/
theorem State.Inv.storeChecksum {s t : State} (h : s.Inv) {f : Field} {o : CkOut} (ht : storeChecksum f o s = some t) :
    t.Inv := by
  obtain ⟨c, r⟩ := o
  cases r with
  | none => cases ht
  | some r => rw [storeChecksum_some] at ht; cases ht; exact (h.withAcc c).storeField f _

theorem State.Inv.sealIp {s t : State} (h : s.Inv) (ht : sealIp s = some t) : t.Inv :=
  (h.storeField .ipCsum 0).storeChecksum ht

/-- The end of a builder keeps the invariant that the built frame has. -/
theorem State.Inv.endBuild {s : State} (h : s.Inv) {o : Option State} (ho : ∀ t, o = some t → t.Inv) :
    (endBuild s o).Inv := by
  cases o with
  | none => exact h.raise _
  | some t => exact (ho t rfl).clearCls.done _

theorem State.Inv.emitTcp {s : State} (h : s.Inv) (g : Segment) : (emitTcp g s).Inv := by
  unfold Sys2Proof.Machine.emitTcp
  split
  · exact h.raise _
  · refine h.endBuild fun t ht => ?_
    have hl := segmentFrame_length s.params s.localMac s.localIp g
    have h1 : ((s.storeBytes 0 (segmentFrame s.params s.localMac s.localIp g)).setFlen (34 + g.tcpLen)).Inv :=
      (h.storeBytes (by omega)).setFlen (by omega)
    obtain ⟨u, hu, hv⟩ := Option.bind_eq_some_iff.1 ht
    exact (h1.storeChecksum hu).storeChecksum hv

theorem State.Inv.mqttSegment {s : State} (h : s.Inv) (c : Byte) (body : List Byte) : (mqttSegment c body s).Inv := by
  unfold Sys2Proof.Machine.mqttSegment
  split
  · exact h.raise _
  · exact h.emitTcp _

end Sys2Proof.Machine
end

