-- ==== Sys2Proof/Laws/Exec.lean ====
section
/-! SUPPORT. What `exec` can do, family by family: a statement about every instruction needs one case for each shape below and
not one for each of the 173 constructors. -/

namespace Sys2Proof.Machine

theorem exec_getInstr (f : Field) (s : State) : exec f.getInstr s = .next (getField f s) := by cases f <;> rfl

theorem exec_putInstr (f : Field) (s : State) : exec f.putInstr s = .next (putField f s) := by cases f <;> rfl

/-- The state that `exec` answers. -/
def after (i : Instr) (s : State) : State :=
  match exec i s with
  | .next t => t
  | .fault _ => s
  | .refused _ => s

/-- The instructions that only return a value of PE. -/
def readCommands : List Instr :=
  [.bufGetlen, .cfgGetMac, .cfgGetIp, .cfgGetSn, .cfgGetGw, .cfgGetDhcp, .clsGet, .ssmGet,
   .ssmGetPort, .isIpUnicast, .isArpReq, .isPingReq, .isTcp]

/-- A statement about every instruction, the state before it and the state after it, by the shape of what the instruction
does. -/
structure ExecCases (P : Instr → State → State → Prop) : Prop where
  /-- The 46 `GET` commands. -/
  get : ∀ f s, P f.getInstr s (getField f s)
  /-- The 46 `PUT` commands. -/
  put : ∀ f s, P f.putInstr s (putField f s)
  /-- The 24 wire rows. -/
  wire : ∀ i f v s, (∀ u, after i u = matchDiscriminator f v u) → P i s (matchDiscriminator f v s)
  /-- The three derived lengths. -/
  length : ∀ i s t, i = .getLenTpl ∨ i = .getLenUdppl ∨ i = .getLenIcmpdata →
    (∃ v, t = s.done v) ∨ t = s.raise .errArg ∨ t = s.raise .errBounds → t = after i s → P i s t
  /-- The commands that only return a value. -/
  read : ∀ i v s, i ∈ readCommands → after i s = s.done v → P i s (s.done v)
  /-- The eight TCP-event predicates. -/
  event : ∀ i b s, i ∈ eventCommands → after i s = (latchIf b s).reply → P i s (latchIf b s).reply
  /-- The six MQTT builders. -/
  mqtt : ∀ i c body s, isMqttBuilder i → after i s = mqttSegment c body s → P i s (mqttSegment c body s)
  rxPoll : ∀ (len : Nat) (s : State), P (.rxPoll len) s (after (.rxPoll len) s)
  tx : ∀ (s : State), P .tx s (after .tx s)
  bufRd : ∀ (idx : Nat) (s : State), P (.bufRd idx) s (after (.bufRd idx) s)
  bufWr : ∀ (idx : Nat) (byte : Byte) (s : State), P (.bufWr idx byte) s (after (.bufWr idx byte) s)
  bufSetlen : ∀ (len : Nat) (s : State), P (.bufSetlen len) s (after (.bufSetlen len) s)
  cfgSetMac : ∀ (s : State), P .cfgSetMac s (after .cfgSetMac s)
  cfgSetIp : ∀ (s : State), P .cfgSetIp s (after .cfgSetIp s)
  cfgSetSn : ∀ (s : State), P .cfgSetSn s (after .cfgSetSn s)
  cfgSetGw : ∀ (s : State), P .cfgSetGw s (after .cfgSetGw s)
  cfgSetDhcp : ∀ (k : Bool) (s : State), P (.cfgSetDhcp k) s (after (.cfgSetDhcp k) s)
  ckReset : ∀ (s : State), P .ckReset s (after .ckReset s)
  ckAcc : ∀ (off len : Nat) (s : State), P (.ckAcc off len) s (after (.ckAcc off len) s)
  ckAccW16 : ∀ (imm : BitVec 16) (s : State), P (.ckAccW16 imm) s (after (.ckAccW16 imm) s)
  ckFinal : ∀ (s : State), P .ckFinal s (after .ckFinal s)
  isIp : ∀ (s : State), P .isIp s (after .isIp s)
  isUdpValid : ∀ (s : State), P .isUdpValid s (after .isUdpValid s)
  classify : ∀ (s : State), P .classify s (after .classify s)
  bldArpReply : ∀ (s : State), P .bldArpReply s (after .bldArpReply s)
  bldArpReq : ∀ (s : State), P .bldArpReq s (after .bldArpReq s)
  bldIcmpReply : ∀ (s : State), P .bldIcmpReply s (after .bldIcmpReply s)
  bldUdpReply : ∀ (s0len : Nat) (s : State), P (.bldUdpReply s0len) s (after (.bldUdpReply s0len) s)
  bldTcpSyn : ∀ (s : State), P .bldTcpSyn s (after .bldTcpSyn s)
  bldTcpAck : ∀ (s : State), P .bldTcpAck s (after .bldTcpAck s)
  req : ∀ (k : BitVec 2) (s : State), P (.req k) s (after (.req k) s)
  step : ∀ (tw : Bool) (s : State), P (.step tw) s (after (.step tw) s)
  getLocL4 : ∀ (s : State), P .getLocL4 s (after .getLocL4 s)
  getLocPl : ∀ (s : State), P .getLocPl s (after .getLocPl s)

/-- Every instruction goes on (R488). -/
theorem exec_eq_after (i : Instr) (s : State) : exec i s = .next (after i s) := by cases i <;> rfl

/-- What a derived length can answer (R192 to R194). -/
theorem lengths_cases (i : Instr) (s : State) (h : i = .getLenTpl ∨ i = .getLenUdppl ∨ i = .getLenIcmpdata) :
    (∃ v, after i s = s.done v) ∨ after i s = s.raise .errArg ∨ after i s = s.raise .errBounds := by
  rcases h with rfl | rfl | rfl
  · simp only [after, exec, execGetLenTpl]
    split
    · split
      · exact .inr (.inl rfl)
      · exact .inl ⟨_, rfl⟩
    · exact .inr (.inr rfl)
  · simp only [after, exec, execGetLenUdppl]
    split
    · split
      · exact .inr (.inl rfl)
      · exact .inl ⟨_, rfl⟩
    · exact .inr (.inr rfl)
  · simp only [after, exec, execGetLenIcmpdata]
    split
    · split
      · exact .inr (.inl rfl)
      · exact .inl ⟨_, rfl⟩
    · exact .inr (.inr rfl)

/-- A statement that holds for every shape holds for every instruction. -/
theorem ExecCases.all {P : Instr → State → State → Prop} (h : ExecCases P) (i : Instr) (s : State) : P i s (after i s) :=
  match i with
  | .rxPoll len => h.rxPoll len s
  | .tx => h.tx s
  | .bufRd idx => h.bufRd idx s
  | .bufWr idx byte => h.bufWr idx byte s
  | .bufSetlen len => h.bufSetlen len s
  | .bufGetlen => h.read _ _ s (by simp [readCommands]) rfl
  | .cfgSetMac => h.cfgSetMac s
  | .cfgSetIp => h.cfgSetIp s
  | .cfgSetSn => h.cfgSetSn s
  | .cfgSetGw => h.cfgSetGw s
  | .cfgGetMac => h.read _ _ s (by simp [readCommands]) rfl
  | .cfgGetIp => h.read _ _ s (by simp [readCommands]) rfl
  | .cfgGetSn => h.read _ _ s (by simp [readCommands]) rfl
  | .cfgGetGw => h.read _ _ s (by simp [readCommands]) rfl
  | .cfgGetDhcp => h.read _ _ s (by simp [readCommands]) rfl
  | .cfgSetDhcp k => h.cfgSetDhcp k s
  | .ckReset => h.ckReset s
  | .ckAcc off len => h.ckAcc off len s
  | .ckAccW16 imm => h.ckAccW16 imm s
  | .ckFinal => h.ckFinal s
  | .getEthDst => h.get .ethDst s
  | .getEthSrc => h.get .ethSrc s
  | .getEthType => h.get .ethType s
  | .getArpHtype => h.get .arpHtype s
  | .getArpPtype => h.get .arpPtype s
  | .getArpHlen => h.get .arpHlen s
  | .getArpPlen => h.get .arpPlen s
  | .getArpOper => h.get .arpOper s
  | .getArpSha => h.get .arpSha s
  | .getArpSpa => h.get .arpSpa s
  | .getArpTha => h.get .arpTha s
  | .getArpTpa => h.get .arpTpa s
  | .getIpVer => h.get .ipVer s
  | .getIpIhl => h.get .ipIhl s
  | .getIpTos => h.get .ipTos s
  | .getIpLen => h.get .ipLen s
  | .getIpId => h.get .ipId s
  | .getIpFlagsfrag => h.get .ipFlagsfrag s
  | .getIpTtl => h.get .ipTtl s
  | .getIpProto => h.get .ipProto s
  | .getIpCsum => h.get .ipCsum s
  | .getIpSrc => h.get .ipSrc s
  | .getIpDst => h.get .ipDst s
  | .getIcmpType => h.get .icmpType s
  | .getIcmpCode => h.get .icmpCode s
  | .getIcmpCsum => h.get .icmpCsum s
  | .getIcmpId => h.get .icmpId s
  | .getIcmpSeq => h.get .icmpSeq s
  | .getUdpSport => h.get .udpSport s
  | .getUdpDport => h.get .udpDport s
  | .getUdpLen => h.get .udpLen s
  | .getUdpCsum => h.get .udpCsum s
  | .getTcpSport => h.get .tcpSport s
  | .getTcpDport => h.get .tcpDport s
  | .getTcpSeq => h.get .tcpSeq s
  | .getTcpAck => h.get .tcpAck s
  | .getTcpDoff => h.get .tcpDoff s
  | .getTcpFlags => h.get .tcpFlags s
  | .getTcpOffsflags => h.get .tcpOffsflags s
  | .getTcpWin => h.get .tcpWin s
  | .getTcpCsum => h.get .tcpCsum s
  | .getTcpUrg => h.get .tcpUrg s
  | .getMqttCtrl => h.get .mqttCtrl s
  | .getMqttType => h.get .mqttType s
  | .getMqttFlags => h.get .mqttFlags s
  | .getMqttRl => h.get .mqttRl s
  | .putEthDst => h.put .ethDst s
  | .putEthSrc => h.put .ethSrc s
  | .putEthType => h.put .ethType s
  | .putArpHtype => h.put .arpHtype s
  | .putArpPtype => h.put .arpPtype s
  | .putArpHlen => h.put .arpHlen s
  | .putArpPlen => h.put .arpPlen s
  | .putArpOper => h.put .arpOper s
  | .putArpSha => h.put .arpSha s
  | .putArpSpa => h.put .arpSpa s
  | .putArpTha => h.put .arpTha s
  | .putArpTpa => h.put .arpTpa s
  | .putIpVer => h.put .ipVer s
  | .putIpIhl => h.put .ipIhl s
  | .putIpTos => h.put .ipTos s
  | .putIpLen => h.put .ipLen s
  | .putIpId => h.put .ipId s
  | .putIpFlagsfrag => h.put .ipFlagsfrag s
  | .putIpTtl => h.put .ipTtl s
  | .putIpProto => h.put .ipProto s
  | .putIpCsum => h.put .ipCsum s
  | .putIpSrc => h.put .ipSrc s
  | .putIpDst => h.put .ipDst s
  | .putIcmpType => h.put .icmpType s
  | .putIcmpCode => h.put .icmpCode s
  | .putIcmpCsum => h.put .icmpCsum s
  | .putIcmpId => h.put .icmpId s
  | .putIcmpSeq => h.put .icmpSeq s
  | .putUdpSport => h.put .udpSport s
  | .putUdpDport => h.put .udpDport s
  | .putUdpLen => h.put .udpLen s
  | .putUdpCsum => h.put .udpCsum s
  | .putTcpSport => h.put .tcpSport s
  | .putTcpDport => h.put .tcpDport s
  | .putTcpSeq => h.put .tcpSeq s
  | .putTcpAck => h.put .tcpAck s
  | .putTcpDoff => h.put .tcpDoff s
  | .putTcpFlags => h.put .tcpFlags s
  | .putTcpOffsflags => h.put .tcpOffsflags s
  | .putTcpWin => h.put .tcpWin s
  | .putTcpCsum => h.put .tcpCsum s
  | .putTcpUrg => h.put .tcpUrg s
  | .putMqttCtrl => h.put .mqttCtrl s
  | .putMqttType => h.put .mqttType s
  | .putMqttFlags => h.put .mqttFlags s
  | .putMqttRl => h.put .mqttRl s
  | .getLocL4 => h.getLocL4 s
  | .getLocPl => h.getLocPl s
  | .getLenTpl => h.length _ s _ (by simp) (lengths_cases _ s (by simp)) rfl
  | .getLenUdppl => h.length _ s _ (by simp) (lengths_cases _ s (by simp)) rfl
  | .getLenIcmpdata => h.length _ s _ (by simp) (lengths_cases _ s (by simp)) rfl
  | .isIp => h.isIp s
  | .isIpUnicast => h.read _ _ s (by simp [readCommands]) rfl
  | .isArpReq => h.read _ _ s (by simp [readCommands]) rfl
  | .isPingReq => h.read _ _ s (by simp [readCommands]) rfl
  | .isUdpValid => h.isUdpValid s
  | .isTcp => h.read _ _ s (by simp [readCommands]) rfl
  | .isSynack => h.event _ _ s (by simp [eventCommands]) rfl
  | .isAck => h.event _ _ s (by simp [eventCommands]) rfl
  | .isPshack => h.event _ _ s (by simp [eventCommands]) rfl
  | .isFinack => h.event _ _ s (by simp [eventCommands]) rfl
  | .isConnack => h.event _ _ s (by simp [eventCommands]) rfl
  | .isPubsuback => h.event _ _ s (by simp [eventCommands]) rfl
  | .isUnsuback => h.event _ _ s (by simp [eventCommands]) rfl
  | .isPingresp => h.event _ _ s (by simp [eventCommands]) rfl
  | .clsGet => h.read _ _ s (by simp [readCommands]) rfl
  | .classify => h.classify s
  | .bldArpReply => h.bldArpReply s
  | .bldArpReq => h.bldArpReq s
  | .bldIcmpReply => h.bldIcmpReply s
  | .bldUdpReply s0len => h.bldUdpReply s0len s
  | .bldTcpSyn => h.bldTcpSyn s
  | .bldTcpAck => h.bldTcpAck s
  | .bldMqttConnect => h.mqtt _ _ _ s (by simp [isMqttBuilder]) rfl
  | .bldMqttPublish s0len s1len => h.mqtt _ _ _ s (by simp [isMqttBuilder]) rfl
  | .bldMqttSubscribe s0len => h.mqtt _ _ _ s (by simp [isMqttBuilder]) rfl
  | .bldMqttUnsubscribe s0len => h.mqtt _ _ _ s (by simp [isMqttBuilder]) rfl
  | .bldMqttDisconnect => h.mqtt _ _ _ s (by simp [isMqttBuilder]) rfl
  | .bldMqttPingreq => h.mqtt _ _ _ s (by simp [isMqttBuilder]) rfl
  | .req k => h.req k s
  | .step tw => h.step tw s
  | .ssmGet => h.read _ _ s (by simp [readCommands]) rfl
  | .ssmGetPort => h.read _ _ s (by simp [readCommands]) rfl
  | .wireEthType0800 => h.wire _ _ _ s (fun _ => rfl)
  | .wireEthType0806 => h.wire _ _ _ s (fun _ => rfl)
  | .wireArpOper0001 => h.wire _ _ _ s (fun _ => rfl)
  | .wireArpOper0002 => h.wire _ _ _ s (fun _ => rfl)
  | .wireIpProto01 => h.wire _ _ _ s (fun _ => rfl)
  | .wireIpProto06 => h.wire _ _ _ s (fun _ => rfl)
  | .wireIpProto11 => h.wire _ _ _ s (fun _ => rfl)
  | .wireIcmpType08 => h.wire _ _ _ s (fun _ => rfl)
  | .wireIcmpType00 => h.wire _ _ _ s (fun _ => rfl)
  | .wireTcpFlags12 => h.wire _ _ _ s (fun _ => rfl)
  | .wireTcpFlags10 => h.wire _ _ _ s (fun _ => rfl)
  | .wireTcpFlags18 => h.wire _ _ _ s (fun _ => rfl)
  | .wireTcpFlags11 => h.wire _ _ _ s (fun _ => rfl)
  | .wireTcpFlags02 => h.wire _ _ _ s (fun _ => rfl)
  | .wireMqttCtrl20 => h.wire _ _ _ s (fun _ => rfl)
  | .wireMqttCtrl90 => h.wire _ _ _ s (fun _ => rfl)
  | .wireMqttCtrlB0 => h.wire _ _ _ s (fun _ => rfl)
  | .wireMqttCtrlD0 => h.wire _ _ _ s (fun _ => rfl)
  | .wireMqttCtrl10 => h.wire _ _ _ s (fun _ => rfl)
  | .wireMqttCtrl30 => h.wire _ _ _ s (fun _ => rfl)
  | .wireMqttCtrl82 => h.wire _ _ _ s (fun _ => rfl)
  | .wireMqttCtrlA2 => h.wire _ _ _ s (fun _ => rfl)
  | .wireMqttCtrlE0 => h.wire _ _ _ s (fun _ => rfl)
  | .wireMqttCtrlC0 => h.wire _ _ _ s (fun _ => rfl)

/-- The same, about what `exec` answers. -/
theorem ExecCases.exec {P : Instr → State → State → Prop} (h : ExecCases P) {i : Instr} {s t : State}
    (he : exec i s = .next t) : P i s t := by
  rw [exec_eq_after] at he; cases he; exact h.all i s

/-- A TCP-event predicate leaves the accumulator (R326). -/
theorem latchIf_acc (b : Bool) (s : State) : (latchIf b s).state.acc = s.acc := by
  unfold latchIf; split <;> [split; skip] <;> rfl

/-- Asking predicates that leave the accumulator leaves the accumulator, whatever the gate. -/
theorem askAll_acc (g : Bool) (ps : List (State → Answer)) (h : ∀ p ∈ ps, ∀ s, (p s).state.acc = s.acc) (s : State) :
    (askAll g ps s).1.acc = s.acc := by
  induction ps generalizing s with
  | nil => rfl
  | cons p ps ih =>
    simp only [askAll]
    rw [ih (fun q hq => h q (List.mem_cons_of_mem _ hq))]
    unfold gated; split
    · exact h p List.mem_cons_self s
    · rfl

end Sys2Proof.Machine
end

