-- ==== Sys2Proof/Laws/PerInstr.lean ====
section
/-! SUPPORT. The families of statements made per instruction. -/

/-- `Packs`: the word of a well-formed instruction is a discriminator of R110, or it is packed from an opcode, `cw[23:12]`
and `cw[11:0]` that fit their fields (R121): no operand spills into another one. -/
def Sys2Proof.Laws.Packs.Statement (i : Sys2Proof.Instr) : Prop :=
  i.wellFormed = true →
    (∃ f v, Sys2Proof.encode i = .wire f v) ∨
    ∃ op hi lo, Sys2Proof.encode i = Sys2Proof.packCommand op hi lo ∧ op < 256 ∧ hi < 4096 ∧ lo < 4096

namespace Sys2Proof.Laws

/-- The word of a field's `GET` or `PUT` is packed from parts that fit (R124). -/
theorem packs_field {op : Nat} (f : Field) (ho : op < 256) {i : Instr} (h : encode i = packCommand op (f.fid * 16) 0) :
    Packs.Statement i := fun _ => .inr ⟨op, f.fid * 16, 0, h, ho, by have := fid_lt f; omega, by decide⟩

/-- A count that `fits12` fits its field. -/
theorem lt_of_fits12 {n : Nat} (h : fits12 n = true) : n < 4096 := of_decide_eq_true h

end Sys2Proof.Laws

theorem Sys2Proof.Laws.Packs.rxPoll (len : Nat) : Sys2Proof.Laws.Packs.Statement (.rxPoll len) :=
  fun h => .inr ⟨0x01, 0, len, rfl, by decide, by decide, Sys2Proof.Laws.lt_of_fits12 h⟩
theorem Sys2Proof.Laws.Packs.tx : Sys2Proof.Laws.Packs.Statement .tx :=
  fun _ => .inr ⟨0x02, 0, 0, rfl, by decide, by decide, by decide⟩
theorem Sys2Proof.Laws.Packs.bufRd (idx : Nat) : Sys2Proof.Laws.Packs.Statement (.bufRd idx) :=
  fun h => .inr ⟨0x03, idx, 0, rfl, by decide, Sys2Proof.Laws.lt_of_fits12 h, by decide⟩
theorem Sys2Proof.Laws.Packs.bufWr (idx : Nat) (byte : Byte) : Sys2Proof.Laws.Packs.Statement (.bufWr idx byte) :=
  fun h => .inr ⟨0x04, idx, byte.toNat, rfl, by decide, Sys2Proof.Laws.lt_of_fits12 h, by have := byte.isLt; omega⟩
theorem Sys2Proof.Laws.Packs.bufSetlen (len : Nat) : Sys2Proof.Laws.Packs.Statement (.bufSetlen len) :=
  fun h => .inr ⟨0x05, 0, len, rfl, by decide, by decide, Sys2Proof.Laws.lt_of_fits12 h⟩
theorem Sys2Proof.Laws.Packs.bufGetlen : Sys2Proof.Laws.Packs.Statement .bufGetlen :=
  fun _ => .inr ⟨0x06, 0, 0, rfl, by decide, by decide, by decide⟩
theorem Sys2Proof.Laws.Packs.cfgSetMac : Sys2Proof.Laws.Packs.Statement .cfgSetMac :=
  fun _ => .inr ⟨0x08, 0, 0, rfl, by decide, by decide, by decide⟩
theorem Sys2Proof.Laws.Packs.cfgSetIp : Sys2Proof.Laws.Packs.Statement .cfgSetIp :=
  fun _ => .inr ⟨0x0A, 0, 0, rfl, by decide, by decide, by decide⟩
theorem Sys2Proof.Laws.Packs.cfgSetSn : Sys2Proof.Laws.Packs.Statement .cfgSetSn :=
  fun _ => .inr ⟨0x0C, 0, 0, rfl, by decide, by decide, by decide⟩
theorem Sys2Proof.Laws.Packs.cfgSetGw : Sys2Proof.Laws.Packs.Statement .cfgSetGw :=
  fun _ => .inr ⟨0x0E, 0, 0, rfl, by decide, by decide, by decide⟩
theorem Sys2Proof.Laws.Packs.cfgGetMac : Sys2Proof.Laws.Packs.Statement .cfgGetMac :=
  fun _ => .inr ⟨0x09, 0, 0, rfl, by decide, by decide, by decide⟩
theorem Sys2Proof.Laws.Packs.cfgGetIp : Sys2Proof.Laws.Packs.Statement .cfgGetIp :=
  fun _ => .inr ⟨0x0B, 0, 0, rfl, by decide, by decide, by decide⟩
theorem Sys2Proof.Laws.Packs.cfgGetSn : Sys2Proof.Laws.Packs.Statement .cfgGetSn :=
  fun _ => .inr ⟨0x0D, 0, 0, rfl, by decide, by decide, by decide⟩
theorem Sys2Proof.Laws.Packs.cfgGetGw : Sys2Proof.Laws.Packs.Statement .cfgGetGw :=
  fun _ => .inr ⟨0x0F, 0, 0, rfl, by decide, by decide, by decide⟩
theorem Sys2Proof.Laws.Packs.cfgGetDhcp : Sys2Proof.Laws.Packs.Statement .cfgGetDhcp :=
  fun _ => .inr ⟨0x11, 0, 0, rfl, by decide, by decide, by decide⟩
theorem Sys2Proof.Laws.Packs.cfgSetDhcp (k : Bool) : Sys2Proof.Laws.Packs.Statement (.cfgSetDhcp k) :=
  fun _ => .inr ⟨0x10, 0, k.toNat, rfl, by decide, by decide, by cases k <;> decide⟩
theorem Sys2Proof.Laws.Packs.ckReset : Sys2Proof.Laws.Packs.Statement .ckReset :=
  fun _ => .inr ⟨0x20, 0, 0, rfl, by decide, by decide, by decide⟩
theorem Sys2Proof.Laws.Packs.ckAcc (off len : Nat) : Sys2Proof.Laws.Packs.Statement (.ckAcc off len) :=
  fun h => .inr ⟨0x21, off, len, rfl, by decide,
    Sys2Proof.Laws.lt_of_fits12 (Bool.and_eq_true_iff.mp h).1, Sys2Proof.Laws.lt_of_fits12 (Bool.and_eq_true_iff.mp h).2⟩
theorem Sys2Proof.Laws.Packs.ckAccW16 (imm : BitVec 16) : Sys2Proof.Laws.Packs.Statement (.ckAccW16 imm) :=
  fun _ => .inr ⟨0x22, imm.toNat / 4096, imm.toNat % 4096, rfl, by decide, by have := imm.isLt; omega, by omega⟩
theorem Sys2Proof.Laws.Packs.ckFinal : Sys2Proof.Laws.Packs.Statement .ckFinal :=
  fun _ => .inr ⟨0x23, 0, 0, rfl, by decide, by decide, by decide⟩
theorem Sys2Proof.Laws.Packs.getEthDst : Sys2Proof.Laws.Packs.Statement .getEthDst :=
  Sys2Proof.Laws.packs_field .ethDst (by decide) rfl
theorem Sys2Proof.Laws.Packs.getEthSrc : Sys2Proof.Laws.Packs.Statement .getEthSrc :=
  Sys2Proof.Laws.packs_field .ethSrc (by decide) rfl
theorem Sys2Proof.Laws.Packs.getEthType : Sys2Proof.Laws.Packs.Statement .getEthType :=
  Sys2Proof.Laws.packs_field .ethType (by decide) rfl
theorem Sys2Proof.Laws.Packs.getArpHtype : Sys2Proof.Laws.Packs.Statement .getArpHtype :=
  Sys2Proof.Laws.packs_field .arpHtype (by decide) rfl
theorem Sys2Proof.Laws.Packs.getArpPtype : Sys2Proof.Laws.Packs.Statement .getArpPtype :=
  Sys2Proof.Laws.packs_field .arpPtype (by decide) rfl
theorem Sys2Proof.Laws.Packs.getArpHlen : Sys2Proof.Laws.Packs.Statement .getArpHlen :=
  Sys2Proof.Laws.packs_field .arpHlen (by decide) rfl
theorem Sys2Proof.Laws.Packs.getArpPlen : Sys2Proof.Laws.Packs.Statement .getArpPlen :=
  Sys2Proof.Laws.packs_field .arpPlen (by decide) rfl
theorem Sys2Proof.Laws.Packs.getArpOper : Sys2Proof.Laws.Packs.Statement .getArpOper :=
  Sys2Proof.Laws.packs_field .arpOper (by decide) rfl
theorem Sys2Proof.Laws.Packs.getArpSha : Sys2Proof.Laws.Packs.Statement .getArpSha :=
  Sys2Proof.Laws.packs_field .arpSha (by decide) rfl
theorem Sys2Proof.Laws.Packs.getArpSpa : Sys2Proof.Laws.Packs.Statement .getArpSpa :=
  Sys2Proof.Laws.packs_field .arpSpa (by decide) rfl
theorem Sys2Proof.Laws.Packs.getArpTha : Sys2Proof.Laws.Packs.Statement .getArpTha :=
  Sys2Proof.Laws.packs_field .arpTha (by decide) rfl
theorem Sys2Proof.Laws.Packs.getArpTpa : Sys2Proof.Laws.Packs.Statement .getArpTpa :=
  Sys2Proof.Laws.packs_field .arpTpa (by decide) rfl
theorem Sys2Proof.Laws.Packs.getIpVer : Sys2Proof.Laws.Packs.Statement .getIpVer :=
  Sys2Proof.Laws.packs_field .ipVer (by decide) rfl
theorem Sys2Proof.Laws.Packs.getIpIhl : Sys2Proof.Laws.Packs.Statement .getIpIhl :=
  Sys2Proof.Laws.packs_field .ipIhl (by decide) rfl
theorem Sys2Proof.Laws.Packs.getIpTos : Sys2Proof.Laws.Packs.Statement .getIpTos :=
  Sys2Proof.Laws.packs_field .ipTos (by decide) rfl
theorem Sys2Proof.Laws.Packs.getIpLen : Sys2Proof.Laws.Packs.Statement .getIpLen :=
  Sys2Proof.Laws.packs_field .ipLen (by decide) rfl
theorem Sys2Proof.Laws.Packs.getIpId : Sys2Proof.Laws.Packs.Statement .getIpId :=
  Sys2Proof.Laws.packs_field .ipId (by decide) rfl
theorem Sys2Proof.Laws.Packs.getIpFlagsfrag : Sys2Proof.Laws.Packs.Statement .getIpFlagsfrag :=
  Sys2Proof.Laws.packs_field .ipFlagsfrag (by decide) rfl
theorem Sys2Proof.Laws.Packs.getIpTtl : Sys2Proof.Laws.Packs.Statement .getIpTtl :=
  Sys2Proof.Laws.packs_field .ipTtl (by decide) rfl
theorem Sys2Proof.Laws.Packs.getIpProto : Sys2Proof.Laws.Packs.Statement .getIpProto :=
  Sys2Proof.Laws.packs_field .ipProto (by decide) rfl
theorem Sys2Proof.Laws.Packs.getIpCsum : Sys2Proof.Laws.Packs.Statement .getIpCsum :=
  Sys2Proof.Laws.packs_field .ipCsum (by decide) rfl
theorem Sys2Proof.Laws.Packs.getIpSrc : Sys2Proof.Laws.Packs.Statement .getIpSrc :=
  Sys2Proof.Laws.packs_field .ipSrc (by decide) rfl
theorem Sys2Proof.Laws.Packs.getIpDst : Sys2Proof.Laws.Packs.Statement .getIpDst :=
  Sys2Proof.Laws.packs_field .ipDst (by decide) rfl
theorem Sys2Proof.Laws.Packs.getIcmpType : Sys2Proof.Laws.Packs.Statement .getIcmpType :=
  Sys2Proof.Laws.packs_field .icmpType (by decide) rfl
theorem Sys2Proof.Laws.Packs.getIcmpCode : Sys2Proof.Laws.Packs.Statement .getIcmpCode :=
  Sys2Proof.Laws.packs_field .icmpCode (by decide) rfl
theorem Sys2Proof.Laws.Packs.getIcmpCsum : Sys2Proof.Laws.Packs.Statement .getIcmpCsum :=
  Sys2Proof.Laws.packs_field .icmpCsum (by decide) rfl
theorem Sys2Proof.Laws.Packs.getIcmpId : Sys2Proof.Laws.Packs.Statement .getIcmpId :=
  Sys2Proof.Laws.packs_field .icmpId (by decide) rfl
theorem Sys2Proof.Laws.Packs.getIcmpSeq : Sys2Proof.Laws.Packs.Statement .getIcmpSeq :=
  Sys2Proof.Laws.packs_field .icmpSeq (by decide) rfl
theorem Sys2Proof.Laws.Packs.getUdpSport : Sys2Proof.Laws.Packs.Statement .getUdpSport :=
  Sys2Proof.Laws.packs_field .udpSport (by decide) rfl
theorem Sys2Proof.Laws.Packs.getUdpDport : Sys2Proof.Laws.Packs.Statement .getUdpDport :=
  Sys2Proof.Laws.packs_field .udpDport (by decide) rfl
theorem Sys2Proof.Laws.Packs.getUdpLen : Sys2Proof.Laws.Packs.Statement .getUdpLen :=
  Sys2Proof.Laws.packs_field .udpLen (by decide) rfl
theorem Sys2Proof.Laws.Packs.getUdpCsum : Sys2Proof.Laws.Packs.Statement .getUdpCsum :=
  Sys2Proof.Laws.packs_field .udpCsum (by decide) rfl
theorem Sys2Proof.Laws.Packs.getTcpSport : Sys2Proof.Laws.Packs.Statement .getTcpSport :=
  Sys2Proof.Laws.packs_field .tcpSport (by decide) rfl
theorem Sys2Proof.Laws.Packs.getTcpDport : Sys2Proof.Laws.Packs.Statement .getTcpDport :=
  Sys2Proof.Laws.packs_field .tcpDport (by decide) rfl
theorem Sys2Proof.Laws.Packs.getTcpSeq : Sys2Proof.Laws.Packs.Statement .getTcpSeq :=
  Sys2Proof.Laws.packs_field .tcpSeq (by decide) rfl
theorem Sys2Proof.Laws.Packs.getTcpAck : Sys2Proof.Laws.Packs.Statement .getTcpAck :=
  Sys2Proof.Laws.packs_field .tcpAck (by decide) rfl
theorem Sys2Proof.Laws.Packs.getTcpDoff : Sys2Proof.Laws.Packs.Statement .getTcpDoff :=
  Sys2Proof.Laws.packs_field .tcpDoff (by decide) rfl
theorem Sys2Proof.Laws.Packs.getTcpFlags : Sys2Proof.Laws.Packs.Statement .getTcpFlags :=
  Sys2Proof.Laws.packs_field .tcpFlags (by decide) rfl
theorem Sys2Proof.Laws.Packs.getTcpOffsflags : Sys2Proof.Laws.Packs.Statement .getTcpOffsflags :=
  Sys2Proof.Laws.packs_field .tcpOffsflags (by decide) rfl
theorem Sys2Proof.Laws.Packs.getTcpWin : Sys2Proof.Laws.Packs.Statement .getTcpWin :=
  Sys2Proof.Laws.packs_field .tcpWin (by decide) rfl
theorem Sys2Proof.Laws.Packs.getTcpCsum : Sys2Proof.Laws.Packs.Statement .getTcpCsum :=
  Sys2Proof.Laws.packs_field .tcpCsum (by decide) rfl
theorem Sys2Proof.Laws.Packs.getTcpUrg : Sys2Proof.Laws.Packs.Statement .getTcpUrg :=
  Sys2Proof.Laws.packs_field .tcpUrg (by decide) rfl
theorem Sys2Proof.Laws.Packs.getMqttCtrl : Sys2Proof.Laws.Packs.Statement .getMqttCtrl :=
  Sys2Proof.Laws.packs_field .mqttCtrl (by decide) rfl
theorem Sys2Proof.Laws.Packs.getMqttType : Sys2Proof.Laws.Packs.Statement .getMqttType :=
  Sys2Proof.Laws.packs_field .mqttType (by decide) rfl
theorem Sys2Proof.Laws.Packs.getMqttFlags : Sys2Proof.Laws.Packs.Statement .getMqttFlags :=
  Sys2Proof.Laws.packs_field .mqttFlags (by decide) rfl
theorem Sys2Proof.Laws.Packs.getMqttRl : Sys2Proof.Laws.Packs.Statement .getMqttRl :=
  Sys2Proof.Laws.packs_field .mqttRl (by decide) rfl
theorem Sys2Proof.Laws.Packs.putEthDst : Sys2Proof.Laws.Packs.Statement .putEthDst :=
  Sys2Proof.Laws.packs_field .ethDst (by decide) rfl
theorem Sys2Proof.Laws.Packs.putEthSrc : Sys2Proof.Laws.Packs.Statement .putEthSrc :=
  Sys2Proof.Laws.packs_field .ethSrc (by decide) rfl
theorem Sys2Proof.Laws.Packs.putEthType : Sys2Proof.Laws.Packs.Statement .putEthType :=
  Sys2Proof.Laws.packs_field .ethType (by decide) rfl
theorem Sys2Proof.Laws.Packs.putArpHtype : Sys2Proof.Laws.Packs.Statement .putArpHtype :=
  Sys2Proof.Laws.packs_field .arpHtype (by decide) rfl
theorem Sys2Proof.Laws.Packs.putArpPtype : Sys2Proof.Laws.Packs.Statement .putArpPtype :=
  Sys2Proof.Laws.packs_field .arpPtype (by decide) rfl
theorem Sys2Proof.Laws.Packs.putArpHlen : Sys2Proof.Laws.Packs.Statement .putArpHlen :=
  Sys2Proof.Laws.packs_field .arpHlen (by decide) rfl
theorem Sys2Proof.Laws.Packs.putArpPlen : Sys2Proof.Laws.Packs.Statement .putArpPlen :=
  Sys2Proof.Laws.packs_field .arpPlen (by decide) rfl
theorem Sys2Proof.Laws.Packs.putArpOper : Sys2Proof.Laws.Packs.Statement .putArpOper :=
  Sys2Proof.Laws.packs_field .arpOper (by decide) rfl
theorem Sys2Proof.Laws.Packs.putArpSha : Sys2Proof.Laws.Packs.Statement .putArpSha :=
  Sys2Proof.Laws.packs_field .arpSha (by decide) rfl
theorem Sys2Proof.Laws.Packs.putArpSpa : Sys2Proof.Laws.Packs.Statement .putArpSpa :=
  Sys2Proof.Laws.packs_field .arpSpa (by decide) rfl
theorem Sys2Proof.Laws.Packs.putArpTha : Sys2Proof.Laws.Packs.Statement .putArpTha :=
  Sys2Proof.Laws.packs_field .arpTha (by decide) rfl
theorem Sys2Proof.Laws.Packs.putArpTpa : Sys2Proof.Laws.Packs.Statement .putArpTpa :=
  Sys2Proof.Laws.packs_field .arpTpa (by decide) rfl
theorem Sys2Proof.Laws.Packs.putIpVer : Sys2Proof.Laws.Packs.Statement .putIpVer :=
  Sys2Proof.Laws.packs_field .ipVer (by decide) rfl
theorem Sys2Proof.Laws.Packs.putIpIhl : Sys2Proof.Laws.Packs.Statement .putIpIhl :=
  Sys2Proof.Laws.packs_field .ipIhl (by decide) rfl
theorem Sys2Proof.Laws.Packs.putIpTos : Sys2Proof.Laws.Packs.Statement .putIpTos :=
  Sys2Proof.Laws.packs_field .ipTos (by decide) rfl
theorem Sys2Proof.Laws.Packs.putIpLen : Sys2Proof.Laws.Packs.Statement .putIpLen :=
  Sys2Proof.Laws.packs_field .ipLen (by decide) rfl
theorem Sys2Proof.Laws.Packs.putIpId : Sys2Proof.Laws.Packs.Statement .putIpId :=
  Sys2Proof.Laws.packs_field .ipId (by decide) rfl
theorem Sys2Proof.Laws.Packs.putIpFlagsfrag : Sys2Proof.Laws.Packs.Statement .putIpFlagsfrag :=
  Sys2Proof.Laws.packs_field .ipFlagsfrag (by decide) rfl
theorem Sys2Proof.Laws.Packs.putIpTtl : Sys2Proof.Laws.Packs.Statement .putIpTtl :=
  Sys2Proof.Laws.packs_field .ipTtl (by decide) rfl
theorem Sys2Proof.Laws.Packs.putIpProto : Sys2Proof.Laws.Packs.Statement .putIpProto :=
  Sys2Proof.Laws.packs_field .ipProto (by decide) rfl
theorem Sys2Proof.Laws.Packs.putIpCsum : Sys2Proof.Laws.Packs.Statement .putIpCsum :=
  Sys2Proof.Laws.packs_field .ipCsum (by decide) rfl
theorem Sys2Proof.Laws.Packs.putIpSrc : Sys2Proof.Laws.Packs.Statement .putIpSrc :=
  Sys2Proof.Laws.packs_field .ipSrc (by decide) rfl
theorem Sys2Proof.Laws.Packs.putIpDst : Sys2Proof.Laws.Packs.Statement .putIpDst :=
  Sys2Proof.Laws.packs_field .ipDst (by decide) rfl
theorem Sys2Proof.Laws.Packs.putIcmpType : Sys2Proof.Laws.Packs.Statement .putIcmpType :=
  Sys2Proof.Laws.packs_field .icmpType (by decide) rfl
theorem Sys2Proof.Laws.Packs.putIcmpCode : Sys2Proof.Laws.Packs.Statement .putIcmpCode :=
  Sys2Proof.Laws.packs_field .icmpCode (by decide) rfl
theorem Sys2Proof.Laws.Packs.putIcmpCsum : Sys2Proof.Laws.Packs.Statement .putIcmpCsum :=
  Sys2Proof.Laws.packs_field .icmpCsum (by decide) rfl
theorem Sys2Proof.Laws.Packs.putIcmpId : Sys2Proof.Laws.Packs.Statement .putIcmpId :=
  Sys2Proof.Laws.packs_field .icmpId (by decide) rfl
theorem Sys2Proof.Laws.Packs.putIcmpSeq : Sys2Proof.Laws.Packs.Statement .putIcmpSeq :=
  Sys2Proof.Laws.packs_field .icmpSeq (by decide) rfl
theorem Sys2Proof.Laws.Packs.putUdpSport : Sys2Proof.Laws.Packs.Statement .putUdpSport :=
  Sys2Proof.Laws.packs_field .udpSport (by decide) rfl
theorem Sys2Proof.Laws.Packs.putUdpDport : Sys2Proof.Laws.Packs.Statement .putUdpDport :=
  Sys2Proof.Laws.packs_field .udpDport (by decide) rfl
theorem Sys2Proof.Laws.Packs.putUdpLen : Sys2Proof.Laws.Packs.Statement .putUdpLen :=
  Sys2Proof.Laws.packs_field .udpLen (by decide) rfl
theorem Sys2Proof.Laws.Packs.putUdpCsum : Sys2Proof.Laws.Packs.Statement .putUdpCsum :=
  Sys2Proof.Laws.packs_field .udpCsum (by decide) rfl
theorem Sys2Proof.Laws.Packs.putTcpSport : Sys2Proof.Laws.Packs.Statement .putTcpSport :=
  Sys2Proof.Laws.packs_field .tcpSport (by decide) rfl
theorem Sys2Proof.Laws.Packs.putTcpDport : Sys2Proof.Laws.Packs.Statement .putTcpDport :=
  Sys2Proof.Laws.packs_field .tcpDport (by decide) rfl
theorem Sys2Proof.Laws.Packs.putTcpSeq : Sys2Proof.Laws.Packs.Statement .putTcpSeq :=
  Sys2Proof.Laws.packs_field .tcpSeq (by decide) rfl
theorem Sys2Proof.Laws.Packs.putTcpAck : Sys2Proof.Laws.Packs.Statement .putTcpAck :=
  Sys2Proof.Laws.packs_field .tcpAck (by decide) rfl
theorem Sys2Proof.Laws.Packs.putTcpDoff : Sys2Proof.Laws.Packs.Statement .putTcpDoff :=
  Sys2Proof.Laws.packs_field .tcpDoff (by decide) rfl
theorem Sys2Proof.Laws.Packs.putTcpFlags : Sys2Proof.Laws.Packs.Statement .putTcpFlags :=
  Sys2Proof.Laws.packs_field .tcpFlags (by decide) rfl
theorem Sys2Proof.Laws.Packs.putTcpOffsflags : Sys2Proof.Laws.Packs.Statement .putTcpOffsflags :=
  Sys2Proof.Laws.packs_field .tcpOffsflags (by decide) rfl
theorem Sys2Proof.Laws.Packs.putTcpWin : Sys2Proof.Laws.Packs.Statement .putTcpWin :=
  Sys2Proof.Laws.packs_field .tcpWin (by decide) rfl
theorem Sys2Proof.Laws.Packs.putTcpCsum : Sys2Proof.Laws.Packs.Statement .putTcpCsum :=
  Sys2Proof.Laws.packs_field .tcpCsum (by decide) rfl
theorem Sys2Proof.Laws.Packs.putTcpUrg : Sys2Proof.Laws.Packs.Statement .putTcpUrg :=
  Sys2Proof.Laws.packs_field .tcpUrg (by decide) rfl
theorem Sys2Proof.Laws.Packs.putMqttCtrl : Sys2Proof.Laws.Packs.Statement .putMqttCtrl :=
  Sys2Proof.Laws.packs_field .mqttCtrl (by decide) rfl
theorem Sys2Proof.Laws.Packs.putMqttType : Sys2Proof.Laws.Packs.Statement .putMqttType :=
  Sys2Proof.Laws.packs_field .mqttType (by decide) rfl
theorem Sys2Proof.Laws.Packs.putMqttFlags : Sys2Proof.Laws.Packs.Statement .putMqttFlags :=
  Sys2Proof.Laws.packs_field .mqttFlags (by decide) rfl
theorem Sys2Proof.Laws.Packs.putMqttRl : Sys2Proof.Laws.Packs.Statement .putMqttRl :=
  Sys2Proof.Laws.packs_field .mqttRl (by decide) rfl
theorem Sys2Proof.Laws.Packs.getLocL4 : Sys2Proof.Laws.Packs.Statement .getLocL4 :=
  fun _ => .inr ⟨0x30, 0x70 * 16, 0, rfl, by decide, by decide, by decide⟩
theorem Sys2Proof.Laws.Packs.getLocPl : Sys2Proof.Laws.Packs.Statement .getLocPl :=
  fun _ => .inr ⟨0x30, 0x71 * 16, 0, rfl, by decide, by decide, by decide⟩
theorem Sys2Proof.Laws.Packs.getLenTpl : Sys2Proof.Laws.Packs.Statement .getLenTpl :=
  fun _ => .inr ⟨0x30, 0x72 * 16, 0, rfl, by decide, by decide, by decide⟩
theorem Sys2Proof.Laws.Packs.getLenUdppl : Sys2Proof.Laws.Packs.Statement .getLenUdppl :=
  fun _ => .inr ⟨0x30, 0x73 * 16, 0, rfl, by decide, by decide, by decide⟩
theorem Sys2Proof.Laws.Packs.getLenIcmpdata : Sys2Proof.Laws.Packs.Statement .getLenIcmpdata :=
  fun _ => .inr ⟨0x30, 0x74 * 16, 0, rfl, by decide, by decide, by decide⟩
theorem Sys2Proof.Laws.Packs.isIp : Sys2Proof.Laws.Packs.Statement .isIp :=
  fun _ => .inr ⟨0x50, 0, 0, rfl, by decide, by decide, by decide⟩
theorem Sys2Proof.Laws.Packs.isIpUnicast : Sys2Proof.Laws.Packs.Statement .isIpUnicast :=
  fun _ => .inr ⟨0x51, 0, 0, rfl, by decide, by decide, by decide⟩
theorem Sys2Proof.Laws.Packs.isArpReq : Sys2Proof.Laws.Packs.Statement .isArpReq :=
  fun _ => .inr ⟨0x52, 0, 0, rfl, by decide, by decide, by decide⟩
theorem Sys2Proof.Laws.Packs.isPingReq : Sys2Proof.Laws.Packs.Statement .isPingReq :=
  fun _ => .inr ⟨0x53, 0, 0, rfl, by decide, by decide, by decide⟩
theorem Sys2Proof.Laws.Packs.isUdpValid : Sys2Proof.Laws.Packs.Statement .isUdpValid :=
  fun _ => .inr ⟨0x54, 0, 0, rfl, by decide, by decide, by decide⟩
theorem Sys2Proof.Laws.Packs.isTcp : Sys2Proof.Laws.Packs.Statement .isTcp :=
  fun _ => .inr ⟨0x55, 0, 0, rfl, by decide, by decide, by decide⟩
theorem Sys2Proof.Laws.Packs.isSynack : Sys2Proof.Laws.Packs.Statement .isSynack :=
  fun _ => .inr ⟨0x56, 0, 0, rfl, by decide, by decide, by decide⟩
theorem Sys2Proof.Laws.Packs.isAck : Sys2Proof.Laws.Packs.Statement .isAck :=
  fun _ => .inr ⟨0x57, 0, 0, rfl, by decide, by decide, by decide⟩
theorem Sys2Proof.Laws.Packs.isPshack : Sys2Proof.Laws.Packs.Statement .isPshack :=
  fun _ => .inr ⟨0x58, 0, 0, rfl, by decide, by decide, by decide⟩
theorem Sys2Proof.Laws.Packs.isFinack : Sys2Proof.Laws.Packs.Statement .isFinack :=
  fun _ => .inr ⟨0x59, 0, 0, rfl, by decide, by decide, by decide⟩
theorem Sys2Proof.Laws.Packs.isConnack : Sys2Proof.Laws.Packs.Statement .isConnack :=
  fun _ => .inr ⟨0x5A, 0, 0, rfl, by decide, by decide, by decide⟩
theorem Sys2Proof.Laws.Packs.isPubsuback : Sys2Proof.Laws.Packs.Statement .isPubsuback :=
  fun _ => .inr ⟨0x5B, 0, 0, rfl, by decide, by decide, by decide⟩
theorem Sys2Proof.Laws.Packs.isUnsuback : Sys2Proof.Laws.Packs.Statement .isUnsuback :=
  fun _ => .inr ⟨0x5C, 0, 0, rfl, by decide, by decide, by decide⟩
theorem Sys2Proof.Laws.Packs.isPingresp : Sys2Proof.Laws.Packs.Statement .isPingresp :=
  fun _ => .inr ⟨0x5D, 0, 0, rfl, by decide, by decide, by decide⟩
theorem Sys2Proof.Laws.Packs.clsGet : Sys2Proof.Laws.Packs.Statement .clsGet :=
  fun _ => .inr ⟨0x5E, 0, 0, rfl, by decide, by decide, by decide⟩
theorem Sys2Proof.Laws.Packs.classify : Sys2Proof.Laws.Packs.Statement .classify :=
  fun _ => .inr ⟨0x5F, 0, 0, rfl, by decide, by decide, by decide⟩
theorem Sys2Proof.Laws.Packs.bldArpReply : Sys2Proof.Laws.Packs.Statement .bldArpReply :=
  fun _ => .inr ⟨0x60, 0, 0, rfl, by decide, by decide, by decide⟩
theorem Sys2Proof.Laws.Packs.bldArpReq : Sys2Proof.Laws.Packs.Statement .bldArpReq :=
  fun _ => .inr ⟨0x61, 0, 0, rfl, by decide, by decide, by decide⟩
theorem Sys2Proof.Laws.Packs.bldIcmpReply : Sys2Proof.Laws.Packs.Statement .bldIcmpReply :=
  fun _ => .inr ⟨0x62, 0, 0, rfl, by decide, by decide, by decide⟩
theorem Sys2Proof.Laws.Packs.bldUdpReply (s0len : Nat) : Sys2Proof.Laws.Packs.Statement (.bldUdpReply s0len) :=
  fun h => .inr ⟨0x63, s0len, 0, rfl, by decide, Sys2Proof.Laws.lt_of_fits12 h, by decide⟩
theorem Sys2Proof.Laws.Packs.bldTcpSyn : Sys2Proof.Laws.Packs.Statement .bldTcpSyn :=
  fun _ => .inr ⟨0x64, 0, 0, rfl, by decide, by decide, by decide⟩
theorem Sys2Proof.Laws.Packs.bldTcpAck : Sys2Proof.Laws.Packs.Statement .bldTcpAck :=
  fun _ => .inr ⟨0x65, 0, 0, rfl, by decide, by decide, by decide⟩
theorem Sys2Proof.Laws.Packs.bldMqttConnect : Sys2Proof.Laws.Packs.Statement .bldMqttConnect :=
  fun _ => .inr ⟨0x66, 0, 0, rfl, by decide, by decide, by decide⟩
theorem Sys2Proof.Laws.Packs.bldMqttPublish (s0len s1len : Nat) : Sys2Proof.Laws.Packs.Statement (.bldMqttPublish s0len s1len) :=
  fun h => .inr ⟨0x67, s0len, s1len, rfl, by decide,
    Sys2Proof.Laws.lt_of_fits12 (Bool.and_eq_true_iff.mp h).1, Sys2Proof.Laws.lt_of_fits12 (Bool.and_eq_true_iff.mp h).2⟩
theorem Sys2Proof.Laws.Packs.bldMqttSubscribe (s0len : Nat) : Sys2Proof.Laws.Packs.Statement (.bldMqttSubscribe s0len) :=
  fun h => .inr ⟨0x68, s0len, 0, rfl, by decide, Sys2Proof.Laws.lt_of_fits12 h, by decide⟩
theorem Sys2Proof.Laws.Packs.bldMqttUnsubscribe (s0len : Nat) : Sys2Proof.Laws.Packs.Statement (.bldMqttUnsubscribe s0len) :=
  fun h => .inr ⟨0x69, s0len, 0, rfl, by decide, Sys2Proof.Laws.lt_of_fits12 h, by decide⟩
theorem Sys2Proof.Laws.Packs.bldMqttDisconnect : Sys2Proof.Laws.Packs.Statement .bldMqttDisconnect :=
  fun _ => .inr ⟨0x6A, 0, 0, rfl, by decide, by decide, by decide⟩
theorem Sys2Proof.Laws.Packs.bldMqttPingreq : Sys2Proof.Laws.Packs.Statement .bldMqttPingreq :=
  fun _ => .inr ⟨0x6B, 0, 0, rfl, by decide, by decide, by decide⟩
theorem Sys2Proof.Laws.Packs.req (k : BitVec 2) : Sys2Proof.Laws.Packs.Statement (.req k) :=
  fun _ => .inr ⟨0x70, 0, k.toNat, rfl, by decide, by decide, by have := k.isLt; omega⟩
theorem Sys2Proof.Laws.Packs.step (tw : Bool) : Sys2Proof.Laws.Packs.Statement (.step tw) :=
  fun _ => .inr ⟨0x71, 0, tw.toNat, rfl, by decide, by decide, by cases tw <;> decide⟩
theorem Sys2Proof.Laws.Packs.ssmGet : Sys2Proof.Laws.Packs.Statement .ssmGet :=
  fun _ => .inr ⟨0x72, 0, 0, rfl, by decide, by decide, by decide⟩
theorem Sys2Proof.Laws.Packs.ssmGetPort : Sys2Proof.Laws.Packs.Statement .ssmGetPort :=
  fun _ => .inr ⟨0x73, 0, 0, rfl, by decide, by decide, by decide⟩
theorem Sys2Proof.Laws.Packs.wireEthType0800 : Sys2Proof.Laws.Packs.Statement .wireEthType0800 :=
  fun _ => .inl ⟨.ethType, 0x0800, rfl⟩
theorem Sys2Proof.Laws.Packs.wireEthType0806 : Sys2Proof.Laws.Packs.Statement .wireEthType0806 :=
  fun _ => .inl ⟨.ethType, 0x0806, rfl⟩
theorem Sys2Proof.Laws.Packs.wireArpOper0001 : Sys2Proof.Laws.Packs.Statement .wireArpOper0001 :=
  fun _ => .inl ⟨.arpOper, 0x0001, rfl⟩
theorem Sys2Proof.Laws.Packs.wireArpOper0002 : Sys2Proof.Laws.Packs.Statement .wireArpOper0002 :=
  fun _ => .inl ⟨.arpOper, 0x0002, rfl⟩
theorem Sys2Proof.Laws.Packs.wireIpProto01 : Sys2Proof.Laws.Packs.Statement .wireIpProto01 :=
  fun _ => .inl ⟨.ipProto, 0x01, rfl⟩
theorem Sys2Proof.Laws.Packs.wireIpProto06 : Sys2Proof.Laws.Packs.Statement .wireIpProto06 :=
  fun _ => .inl ⟨.ipProto, 0x06, rfl⟩
theorem Sys2Proof.Laws.Packs.wireIpProto11 : Sys2Proof.Laws.Packs.Statement .wireIpProto11 :=
  fun _ => .inl ⟨.ipProto, 0x11, rfl⟩
theorem Sys2Proof.Laws.Packs.wireIcmpType08 : Sys2Proof.Laws.Packs.Statement .wireIcmpType08 :=
  fun _ => .inl ⟨.icmpType, 0x08, rfl⟩
theorem Sys2Proof.Laws.Packs.wireIcmpType00 : Sys2Proof.Laws.Packs.Statement .wireIcmpType00 :=
  fun _ => .inl ⟨.icmpType, 0x00, rfl⟩
theorem Sys2Proof.Laws.Packs.wireTcpFlags12 : Sys2Proof.Laws.Packs.Statement .wireTcpFlags12 :=
  fun _ => .inl ⟨.tcpFlags, 0x12, rfl⟩
theorem Sys2Proof.Laws.Packs.wireTcpFlags10 : Sys2Proof.Laws.Packs.Statement .wireTcpFlags10 :=
  fun _ => .inl ⟨.tcpFlags, 0x10, rfl⟩
theorem Sys2Proof.Laws.Packs.wireTcpFlags18 : Sys2Proof.Laws.Packs.Statement .wireTcpFlags18 :=
  fun _ => .inl ⟨.tcpFlags, 0x18, rfl⟩
theorem Sys2Proof.Laws.Packs.wireTcpFlags11 : Sys2Proof.Laws.Packs.Statement .wireTcpFlags11 :=
  fun _ => .inl ⟨.tcpFlags, 0x11, rfl⟩
theorem Sys2Proof.Laws.Packs.wireTcpFlags02 : Sys2Proof.Laws.Packs.Statement .wireTcpFlags02 :=
  fun _ => .inl ⟨.tcpFlags, 0x02, rfl⟩
theorem Sys2Proof.Laws.Packs.wireMqttCtrl20 : Sys2Proof.Laws.Packs.Statement .wireMqttCtrl20 :=
  fun _ => .inl ⟨.mqttCtrl, 0x20, rfl⟩
theorem Sys2Proof.Laws.Packs.wireMqttCtrl90 : Sys2Proof.Laws.Packs.Statement .wireMqttCtrl90 :=
  fun _ => .inl ⟨.mqttCtrl, 0x90, rfl⟩
theorem Sys2Proof.Laws.Packs.wireMqttCtrlB0 : Sys2Proof.Laws.Packs.Statement .wireMqttCtrlB0 :=
  fun _ => .inl ⟨.mqttCtrl, 0xB0, rfl⟩
theorem Sys2Proof.Laws.Packs.wireMqttCtrlD0 : Sys2Proof.Laws.Packs.Statement .wireMqttCtrlD0 :=
  fun _ => .inl ⟨.mqttCtrl, 0xD0, rfl⟩
theorem Sys2Proof.Laws.Packs.wireMqttCtrl10 : Sys2Proof.Laws.Packs.Statement .wireMqttCtrl10 :=
  fun _ => .inl ⟨.mqttCtrl, 0x10, rfl⟩
theorem Sys2Proof.Laws.Packs.wireMqttCtrl30 : Sys2Proof.Laws.Packs.Statement .wireMqttCtrl30 :=
  fun _ => .inl ⟨.mqttCtrl, 0x30, rfl⟩
theorem Sys2Proof.Laws.Packs.wireMqttCtrl82 : Sys2Proof.Laws.Packs.Statement .wireMqttCtrl82 :=
  fun _ => .inl ⟨.mqttCtrl, 0x82, rfl⟩
theorem Sys2Proof.Laws.Packs.wireMqttCtrlA2 : Sys2Proof.Laws.Packs.Statement .wireMqttCtrlA2 :=
  fun _ => .inl ⟨.mqttCtrl, 0xA2, rfl⟩
theorem Sys2Proof.Laws.Packs.wireMqttCtrlE0 : Sys2Proof.Laws.Packs.Statement .wireMqttCtrlE0 :=
  fun _ => .inl ⟨.mqttCtrl, 0xE0, rfl⟩
theorem Sys2Proof.Laws.Packs.wireMqttCtrlC0 : Sys2Proof.Laws.Packs.Statement .wireMqttCtrlC0 :=
  fun _ => .inl ⟨.mqttCtrl, 0xC0, rfl⟩
end

