-- ==== Sys2Proof/Tests/Slice0.lean ====
section
/-! SUPPORT. Our own tests: the checks of `wellFormed`, the word of every instruction, vectors of spec/95_test_vectors.md, and
a witness of the hypotheses of every obligation that has hypotheses. -/

set_option Elab.async false

namespace Sys2Proof.Tests

open Sys2Proof.Machine

/-! ### WellFormed refuses what does not fit (R121) -/

theorem test_wellFormed_refuses_rxPoll : Instr.wellFormed (.rxPoll 4096) = false := by decide
theorem test_wellFormed_refuses_bufRd : Instr.wellFormed (.bufRd 4096) = false := by decide
theorem test_wellFormed_refuses_bufWr : Instr.wellFormed (.bufWr 4096 0) = false := by decide
theorem test_wellFormed_refuses_bufSetlen : Instr.wellFormed (.bufSetlen 4096) = false := by decide
theorem test_wellFormed_refuses_ckAcc_off : Instr.wellFormed (.ckAcc 4096 0) = false := by decide
theorem test_wellFormed_refuses_ckAcc_len : Instr.wellFormed (.ckAcc 0 4096) = false := by decide
theorem test_wellFormed_refuses_bldUdpReply : Instr.wellFormed (.bldUdpReply 4096) = false := by decide
theorem test_wellFormed_refuses_bldMqttPublish_topic : Instr.wellFormed (.bldMqttPublish 4096 0) = false := by decide
theorem test_wellFormed_refuses_bldMqttPublish_message : Instr.wellFormed (.bldMqttPublish 0 4096) = false := by decide
theorem test_wellFormed_refuses_bldMqttSubscribe : Instr.wellFormed (.bldMqttSubscribe 4096) = false := by decide
theorem test_wellFormed_refuses_bldMqttUnsubscribe : Instr.wellFormed (.bldMqttUnsubscribe 4096) = false := by decide

/-! ### The word of every instruction, written from R110 and R121 to R126 -/

/-- The instructions of command words. -/
def commands (ws : List Nat) : List (Option Instr) := ws.map (decodeTableWord 32)

/-- R122. -/
theorem test_decode_host :
    commands
      [0x010005F2, 0x02000000, 0x035F1000, 0x0401603F, 0x050005F3, 0x06000000] =
      [(.rxPoll 1522 : Instr), .tx, .bufRd 1521, .bufWr 22 0x3F, .bufSetlen 1523, .bufGetlen].map some := by
  decide +kernel

/-- R122. -/
theorem test_decode_configuration :
    commands
      [0x08000000, 0x0A000000, 0x0C000000, 0x0E000000, 0x09000000, 0x0B000000, 0x0D000000, 0x0F000000, 0x11000000,
       0x10000001] =
      [(.cfgSetMac : Instr), .cfgSetIp, .cfgSetSn, .cfgSetGw, .cfgGetMac, .cfgGetIp, .cfgGetSn, .cfgGetGw,
       .cfgGetDhcp, .cfgSetDhcp true].map some := by
  decide +kernel

/-- R123. -/
theorem test_decode_checksum :
    commands
      [0x20000000, 0x2100E014, 0x2200ABCD, 0x23000000] =
      [(.ckReset : Instr), .ckAcc 14 20, .ckAccW16 0xABCD, .ckFinal].map some := by
  decide +kernel

/-- R124. -/
theorem test_decode_get_fields_low :
    commands
      [0x30000000, 0x30010000, 0x30020000, 0x30100000, 0x30110000, 0x30120000, 0x30130000, 0x30140000, 0x30150000,
       0x30160000, 0x30170000, 0x30180000, 0x30200000, 0x30210000, 0x30220000, 0x30230000, 0x30240000, 0x30250000,
       0x30260000, 0x30270000, 0x30280000, 0x30290000, 0x302A0000, 0x30300000, 0x30310000, 0x30320000] =
      [(.getEthDst : Instr), .getEthSrc, .getEthType, .getArpHtype, .getArpPtype, .getArpHlen, .getArpPlen,
       .getArpOper, .getArpSha, .getArpSpa, .getArpTha, .getArpTpa, .getIpVer, .getIpIhl, .getIpTos, .getIpLen,
       .getIpId, .getIpFlagsfrag, .getIpTtl, .getIpProto, .getIpCsum, .getIpSrc, .getIpDst, .getIcmpType,
       .getIcmpCode, .getIcmpCsum].map some := by
  decide +kernel

/-- R124. -/
theorem test_decode_get_fields_high :
    commands
      [0x30330000, 0x30340000, 0x30400000, 0x30410000, 0x30420000, 0x30430000, 0x30500000, 0x30510000, 0x30520000,
       0x30530000, 0x30540000, 0x30550000, 0x30560000, 0x30570000, 0x30580000, 0x30590000, 0x30600000, 0x30610000,
       0x30620000, 0x30630000, 0x30700000, 0x30710000, 0x30720000, 0x30730000, 0x30740000] =
      [(.getIcmpId : Instr), .getIcmpSeq, .getUdpSport, .getUdpDport, .getUdpLen, .getUdpCsum, .getTcpSport,
       .getTcpDport, .getTcpSeq, .getTcpAck, .getTcpDoff, .getTcpFlags, .getTcpOffsflags, .getTcpWin, .getTcpCsum,
       .getTcpUrg, .getMqttCtrl, .getMqttType, .getMqttFlags, .getMqttRl, .getLocL4, .getLocPl, .getLenTpl,
       .getLenUdppl, .getLenIcmpdata].map some := by
  decide +kernel

/-- R124. -/
theorem test_decode_put_fields_low :
    commands
      [0x31000000, 0x31010000, 0x31020000, 0x31100000, 0x31110000, 0x31120000, 0x31130000, 0x31140000, 0x31150000,
       0x31160000, 0x31170000, 0x31180000, 0x31200000, 0x31210000, 0x31220000, 0x31230000, 0x31240000, 0x31250000,
       0x31260000, 0x31270000, 0x31280000, 0x31290000, 0x312A0000, 0x31300000, 0x31310000, 0x31320000] =
      [(.putEthDst : Instr), .putEthSrc, .putEthType, .putArpHtype, .putArpPtype, .putArpHlen, .putArpPlen,
       .putArpOper, .putArpSha, .putArpSpa, .putArpTha, .putArpTpa, .putIpVer, .putIpIhl, .putIpTos, .putIpLen,
       .putIpId, .putIpFlagsfrag, .putIpTtl, .putIpProto, .putIpCsum, .putIpSrc, .putIpDst, .putIcmpType,
       .putIcmpCode, .putIcmpCsum].map some := by
  decide +kernel

/-- R124. -/
theorem test_decode_put_fields_high :
    commands
      [0x31330000, 0x31340000, 0x31400000, 0x31410000, 0x31420000, 0x31430000, 0x31500000, 0x31510000, 0x31520000,
       0x31530000, 0x31540000, 0x31550000, 0x31560000, 0x31570000, 0x31580000, 0x31590000, 0x31600000, 0x31610000,
       0x31620000, 0x31630000] =
      [(.putIcmpId : Instr), .putIcmpSeq, .putUdpSport, .putUdpDport, .putUdpLen, .putUdpCsum, .putTcpSport,
       .putTcpDport, .putTcpSeq, .putTcpAck, .putTcpDoff, .putTcpFlags, .putTcpOffsflags, .putTcpWin, .putTcpCsum,
       .putTcpUrg, .putMqttCtrl, .putMqttType, .putMqttFlags, .putMqttRl].map some := by
  decide +kernel

/-- R125. -/
theorem test_decode_classifier :
    commands
      [0x50000000, 0x51000000, 0x52000000, 0x53000000, 0x54000000, 0x55000000, 0x56000000, 0x57000000, 0x58000000,
       0x59000000, 0x5A000000, 0x5B000000, 0x5C000000, 0x5D000000, 0x5E000000, 0x5F000000] =
      [(.isIp : Instr), .isIpUnicast, .isArpReq, .isPingReq, .isUdpValid, .isTcp, .isSynack, .isAck, .isPshack,
       .isFinack, .isConnack, .isPubsuback, .isUnsuback, .isPingresp, .clsGet, .classify].map some := by
  decide +kernel

/-- R126. -/
theorem test_decode_builders :
    commands
      [0x60000000, 0x61000000, 0x62000000, 0x63003000, 0x64000000, 0x65000000, 0x66000000, 0x67003002, 0x68003000,
       0x69003000, 0x6A000000, 0x6B000000] =
      [(.bldArpReply : Instr), .bldArpReq, .bldIcmpReply, .bldUdpReply 3, .bldTcpSyn, .bldTcpAck, .bldMqttConnect,
       .bldMqttPublish 3 2, .bldMqttSubscribe 3, .bldMqttUnsubscribe 3, .bldMqttDisconnect, .bldMqttPingreq].map some := by
  decide +kernel

/-- R126. -/
theorem test_decode_session :
    commands
      [0x70000003, 0x71000001, 0x72000000, 0x73000000] =
      [(.req 3 : Instr), .step true, .ssmGet, .ssmGetPort].map some := by
  decide +kernel

/-- R110 and, for CONNECT, R108. -/
theorem test_decode_wire :
    ([(.ethType, 0x0800), (.ethType, 0x0806), (.arpOper, 0x0001), (.arpOper, 0x0002), (.ipProto, 0x01),
      (.ipProto, 0x06), (.ipProto, 0x11), (.icmpType, 0x08), (.icmpType, 0x00), (.tcpFlags, 0x12), (.tcpFlags, 0x10),
      (.tcpFlags, 0x18), (.tcpFlags, 0x11), (.tcpFlags, 0x02), (.mqttCtrl, 0x20), (.mqttCtrl, 0x90),
      (.mqttCtrl, 0xB0), (.mqttCtrl, 0xD0), (.mqttCtrl, 0x10), (.mqttCtrl, 0x30), (.mqttCtrl, 0x82),
      (.mqttCtrl, 0xA2), (.mqttCtrl, 0xE0), (.mqttCtrl, 0xC0)] : List (WireField × Nat)).map
        (fun p => (decodeWire p.1 p.2).toOption) =
      [(.wireEthType0800 : Instr), .wireEthType0806, .wireArpOper0001, .wireArpOper0002, .wireIpProto01,
       .wireIpProto06, .wireIpProto11, .wireIcmpType08, .wireIcmpType00, .wireTcpFlags12, .wireTcpFlags10,
       .wireTcpFlags18, .wireTcpFlags11, .wireTcpFlags02, .wireMqttCtrl20, .wireMqttCtrl90, .wireMqttCtrlB0,
       .wireMqttCtrlD0, .wireMqttCtrl10, .wireMqttCtrl30, .wireMqttCtrl82, .wireMqttCtrlA2, .wireMqttCtrlE0,
       .wireMqttCtrlC0].map some := by
  decide +kernel

/-- R128 and spec/95_test_vectors.md section 4.7. -/
theorem test_decode_refuses_illegal_words :
    commands
      [0x00000000, 0x07000000, 0x12000000, 0x1F000000, 0x24000000, 0x32000000, 0x4F000000, 0x6C000000, 0x74000000,
       0xFF000000, 0x20000001, 0x23000100, 0x22010011, 0x01001000, 0x30FF0000, 0x30030000, 0x30750000, 0x31700000,
       0x30230001, 0x5F000001, 0x64000001, 0x70000004, 0x71000002, 0x68003001, 0x0300E001, 0x04016100, 0x10000002] =
      List.replicate 27 none := by decide +kernel

/-! ### The example frames of spec/95_test_vectors.md section 3, each as one big-endian number -/

/-- Frame FA, an ARP request. -/
def arpRequest : List Byte := beBytes 42
  0xFFFFFFFFFFFFAABBCCDDEEFF08060001080006040001AABBCCDDEEFFC0A80A01000000000000C0A80A8A

/-- Frame FB, an ICMP echo request. -/
def ping : List Byte := beBytes 50
  0x020304050607AABBCCDDEEFF080045000024ABCD000040013930C0A80A01C0A80A8A08005435123400016162636465666768

/-- Frame FC, a UDP datagram. -/
def udp : List Byte := beBytes 47
  0x020304050607AABBCCDDEEFF080045000021ABCE000040113922C0A80A01C0A80A8A303904D2000DF11A68656C6C6F

/-- Frame FE, a SYN and ACK. -/
def synAck : List Byte := beBytes 58
  0x020304050607AABBCCDDEEFF08004500002C200000004006C4F0C0A80A01C0A80A8A075B823500001000000000016012FAF06DB80000020405B4

/-- Frame FD, a CONNACK. -/
def connack : List Byte := beBytes 58
  0x020304050607AABBCCDDEEFF08004500002C200000004006C4F0C0A80A01C0A80A8A075B823500001001000000135018FAF06555000020020000

/-- Frame FG, a bare ACK. -/
def bareAck : List Byte := beBytes 54
  0x020304050607AABBCCDDEEFF080045000028200000004006C4F4C0A80A01C0A80A8A075B8235000010050000001C5010FAF085560000

/-- Frame FH, a FIN and ACK. -/
def finAck : List Byte := beBytes 54
  0x020304050607AABBCCDDEEFF080045000028200000004006C4F4C0A80A01C0A80A8A075B8235000010050000001E5011FAF085530000

/-- Frame FS, a SUBACK. -/
def suback : List Byte := beBytes 59
  0x020304050607AABBCCDDEEFF08004500002D200000004006C4EFC0A80A01C0A80A8A075B8235000010050000001D5018FAF0F54300009003000100

/-- The parameters of section 2. -/
def params : Config.Params where
  peerMac := 0xAABBCCDDEEFF
  peerIp := 0xC0A80A01
  peerPort := 1883
  connectFlags := 0x02
  keepAlive := 60
  clientId := [0x69, 0x6F, 0x74, 0x31]
  mssValue := 1460
  ipTos := 0
  ipId := 1
  ipFlagsFrag := 0x4000
  ipTtl := 64
  tcpWindow := 1460
  subQos := 0
  msgId := 1
  timeWaitDelay := 0

/-- The environment of section 6: the draw of port 33333, TX succeeds. -/
def environment : Env where
  rxFrame := none
  rxOvf := false
  txOk := true
  portDraw := ⟨33333 - 1024, by decide⟩

/-- PE configured as in section 2, with no frame. -/
def pe : State :=
  { State.atReset 0 params with
    localMac := 0x020304050607, localIp := 0xC0A80A8A, subnetMask := 0xFFFFFF00, gateway := 0xC0A80A01, dhcpEn := true,
    env := environment }

/-- PE with a frame received. -/
def loaded (f : List Byte) : State := (pe.storeBytes 0 f).setFlen f.length

/-- Some commands, one after another. -/
def run (is : List Instr) (s : State) : State := is.foldl (fun s i => after i s) s

/-- The result value and the status that the last command left. -/
def reply (s : State) : Nat × Status := (s.rdata.toNat, s.status)

/-- The frame in the buffer, as one big-endian number. -/
def frame (s : State) : Nat := s.memRead 0 s.flen

/-- The stream port carries a topic and a message. -/
def withStreams (s0 s1 : List Byte) (s : State) : State := { s with s0 := s0, s1 := s1 }

/-! ### Checksum (section 4.1) -/

/-- Section 1.1: the header of frame FB verifies, and regenerates. -/
theorem test_ck_header :
    reply (run [.ckReset, .ckAcc 14 20, .ckFinal] (loaded ping)) = (0, .ok) ∧
    reply (run [.bufWr 24 0, .bufWr 25 0, .ckReset, .ckAcc 14 20, .ckFinal] (loaded ping)) = (0x3930, .ok) := by
  decide +kernel

/-- Program P3: an odd datagram with its pseudo-header. -/
theorem test_ck_udp_by_hand :
    (let s := run [.ckReset, .ckAcc 26 8, .ckAccW16 0x11, .ckAccW16 13, .ckAcc 34 13] (loaded udp)
     (s.sum, s.phase) = (0x0003FFFC, true) ∧ reply (after .ckFinal s) = (0, .ok)) := by
  decide +kernel

/-- K11 to K14: the fold, and the sum that wraps. -/
theorem test_ck_fold_and_wrap :
    reply (after .ckFinal { pe with sum := 0x0001FFFF }) = (0xFFFE, .ok) ∧
    reply (after .ckFinal { pe with sum := 0xFFFF0001 }) = (0xFFFE, .ok) ∧
    (after (.ckAccW16 1) { pe with sum := 0xFFFFFFFF }).sum = 0 := by
  decide +kernel

/-- Section 4.1: what is in frame. -/
theorem test_ckAcc_bounds :
    reply (after (.ckAcc 40 11) (loaded ping)) = (0, .errBounds) ∧
    reply (after (.ckAcc 50 0) (loaded ping)) = (0, .ok) ∧
    reply (after (.ckAcc 51 0) (loaded ping)) = (0, .errBounds) := by
  decide +kernel

/-! ### Parser (section 4.2) -/

/-- G1, G4 to G6, G13, G15, G16: fields of each header, a byte, a nibble, a base that moves. -/
theorem test_get_fields :
    reply (after .getEthDst (loaded ping)) = (0x020304050607, .ok) ∧
    reply (after .getArpTpa (loaded arpRequest)) = (0xC0A80A8A, .ok) ∧
    reply (after .getIpVer (loaded ping)) = (4, .ok) ∧ reply (after .getIpIhl (loaded ping)) = (5, .ok) ∧
    reply (after .getTcpSeq (loaded connack)) = (0x1001, .ok) ∧ reply (after .getTcpDoff (loaded synAck)) = (6, .ok) ∧
    reply (after .getMqttCtrl (loaded connack)) = (0x20, .ok) := by
  decide +kernel

/-- G28, G31, G32: what is not in frame. -/
theorem test_get_bounds :
    reply (after .getMqttCtrl (loaded synAck)) = (0, .errBounds) ∧
    reply (after .getIcmpType ((loaded ping).setFlen 14)) = (0, .errBounds) ∧
    reply (after .getIcmpType ((loaded ping).setFlen 34)) = (0, .errBounds) ∧
    reply (after .getIcmpType ((loaded ping).setFlen 35)) = (8, .ok) := by
  decide +kernel

/-- G19 to G23, G27: the derived quantities. -/
theorem test_derived :
    reply (after .getLocPl (loaded connack)) = (54, .ok) ∧ reply (after .getLocPl (loaded synAck)) = (58, .ok) ∧
    reply (after .getLenTpl (loaded connack)) = (4, .ok) ∧ reply (after .getLenUdppl (loaded udp)) = (5, .ok) ∧
    reply (after .getLenIcmpdata (loaded ping)) = (8, .ok) ∧ reply (after .getLenTpl (loaded ping)) = (0, .errArg) := by
  decide +kernel

/-- U1, U2, U4, U5, U13: a byte, too wide a value, a nibble that keeps the other one, and which fault comes first. -/
theorem test_put :
    (after .putIpTtl { loaded ping with wdata := 0x3F }).byteAt 22 = 0x3F ∧
    reply (after .putIpTtl { loaded ping with wdata := 0x100 }) = (0, .errArg) ∧
    (after .putIpVer { loaded ping with wdata := 6 }).byteAt 14 = 0x65 ∧
    (after .putIpIhl { loaded ping with wdata := 6 }).byteAt 14 = 0x46 ∧
    reply (after .putIpLen { pe with wdata := 0x10000 }) = (0, .errArg) := by
  decide +kernel

/-- U7: most significant byte at the lowest address (section 1.2). -/
theorem test_put_tcpSeq :
    (after .putTcpSeq { loaded connack with wdata := 0x12345678 }).bytesAt 38 4 = [0x12, 0x34, 0x56, 0x78] := by
  decide +kernel

/-! ### Classifier (section 4.3) -/

/-- The first column of `CLASSIFY`'s results. -/
theorem test_classify :
    [arpRequest, ping, udp, synAck, connack, bareAck, finAck, suback].map (fun f => reply (after .classify (loaded f))) =
      [(0x0001, .ok), (0x000E, .ok), (0x0016, .ok), (0x0066, .ok), (0x0526, .ok), (0x00A6, .ok), (0x0226, .ok),
       (0x0926, .ok)] := by
  decide +kernel

/-- The latch after frame FE and after frame FD: a SYN counts one, the payload its bytes (R320). -/
theorem test_latch :
    (let s := after .isSynack (loaded synAck)
     (s.peerSeq, s.peerAck, s.consumedLen, s.lastSport, s.lastDport) = (0x1000, 1, 1, 1883, 33333)) ∧
    (let s := after .isConnack (loaded connack)
     (s.peerSeq, s.peerAck, s.consumedLen, s.lastSport, s.lastDport) = (0x1001, 0x13, 4, 1883, 33333)) := by
  decide +kernel

/-- C12, C15, C18: frames too short for a predicate, for its reset, for everything. -/
theorem test_classify_short_frames :
    reply (after .classify ((loaded ping).setFlen 33)) = (0, .ok) ∧
    reply (after .classify ((loaded connack).setFlen 47)) = (0x26, .ok) ∧
    reply (after .classify pe) = (0, .ok) ∧ (after .classify pe).clsFresh = true := by
  decide +kernel

/-- C29: STEP clears `cls_fresh` only; C30: a buffer write clears `cls`. -/
theorem test_cls_fresh :
    reply (run [.classify, .clsGet] (loaded ping)) = (0x400E, .ok) ∧
    reply (run [.classify, .step false, .clsGet] (loaded ping)) = (0x000E, .ok) ∧
    reply (run [.classify, .bufWr 49 0x68, .clsGet] (loaded ping)) = (0, .ok) := by
  decide +kernel

/-- The two predicates that verify a checksum leave it in the accumulator: C2 and C4. -/
theorem test_verifying_predicates :
    (let s := run [.bufWr 22 0x3F, .isIp] (loaded ping)
     (s.rdata, s.sum, s.phase) = (0, 0xFEFF, false)) ∧
    (let s := run [.bufWr 46 0x6E, .isUdpValid] (loaded udp)
     (s.rdata, s.sum, s.phase) = (0, 0xFEFF, true)) := by
  decide +kernel

/-! ### Builders (sections 4.4, 5 and 6) -/

/-- Sections 5.1 and 5.2. -/
theorem test_arp_builders :
    frame (after .bldArpReply (loaded arpRequest)) =
      0xAABBCCDDEEFF02030405060708060001080006040002020304050607C0A80A8AAABBCCDDEEFFC0A80A01 ∧
    frame (after .bldArpReq { pe with wdata := 0xC0A80A01 }) =
      0xFFFFFFFFFFFF02030405060708060001080006040001020304050607C0A80A8A000000000000C0A80A01 := by
  decide +kernel

/-- Section 5.3. -/
theorem test_icmp_reply :
    (let s := after .bldIcmpReply (loaded ping)
     (s.sum, s.phase) = (0xA3CA, false) ∧
     frame s =
      0xAABBCCDDEEFF020304050607080045000024ABCD000040013930C0A80A8AC0A80A0100005C35123400016162636465666768) := by
  decide +kernel

/-- Section 5.4. -/
theorem test_udp_reply :
    (let s := after (.bldUdpReply 3) (withStreams [0x6F, 0x6B, 0x21] [] (loaded udp))
     (s.sum, s.phase) = (0x5B7A, true) ∧
     frame s =
      0xAABBCCDDEEFF02030405060708004500001FABCE000040113924C0A80A8AC0A80A0104D23039000BA4856F6B21) := by
  decide +kernel

/-- Section 6, T1 and T2. -/
theorem test_tcp_builders :
    frame (after .bldTcpSyn pe) =
      0xAABBCCDDEEFF02030405060708004500002C000140004006A4EFC0A80A8AC0A80A018235075B0000000000000000600205B473060000020405B4 ∧
    frame (run [.classify, .bldTcpAck] (loaded synAck)) =
      0xAABBCCDDEEFF020304050607080045000028000140004006A4F3C0A80A8AC0A80A018235075B0000000100001001501005B47AB20000 := by
  decide +kernel

/-- Section 6, T3. -/
theorem test_connect :
    frame (run [.classify, .bldMqttConnect] (loaded synAck)) =
      0xAABBCCDDEEFF02030405060708004500003A000140004006A4E1C0A80A8AC0A80A018235075B0000000100001001501805B4E6FB0000101000044D5154540402003C0004696F7431 := by
  decide +kernel

/-- Section 6, T4. -/
theorem test_publish :
    frame (run [.classify, .bldMqttPublish 3 2] (withStreams [0x74, 0x2F, 0x61] [0x32, 0x31] (loaded connack))) =
      0xAABBCCDDEEFF020304050607080045000031000140004006A4EAC0A80A8AC0A80A018235075B0000001300001005501805B4441F000030070003742F613231 := by
  decide +kernel

/-- Section 5.7. -/
theorem test_subscribe :
    frame (run [.classify, .bldMqttSubscribe 3] (withStreams [0x74, 0x2F, 0x61] [] (loaded connack))) =
      0xAABBCCDDEEFF020304050607080045000032000140004006A4E9C0A80A8AC0A80A018235075B0000001300001005501805B4234E0000820800010003742F6100 := by
  decide +kernel

/-- Section 5.8. -/
theorem test_unsubscribe :
    frame (run [.classify, .bldMqttUnsubscribe 3] (withStreams [0x74, 0x2F, 0x61] [] (loaded connack))) =
      0xAABBCCDDEEFF020304050607080045000031000140004006A4EAC0A80A8AC0A80A018235075B0000001300001005501805B403500000A20700010003742F61 := by
  decide +kernel

/-- Section 5.9, and section 6, T5. -/
theorem test_disconnect_and_pingreq :
    frame (run [.classify, .bldMqttPingreq] (loaded connack)) =
      0xAABBCCDDEEFF02030405060708004500002A000140004006A4F1C0A80A8AC0A80A018235075B0000001300001005501805B4BA910000C000 ∧
    frame (run [.classify, .bldMqttDisconnect] (loaded bareAck)) =
      0xAABBCCDDEEFF02030405060708004500002A000140004006A4F1C0A80A8AC0A80A018235075B0000001C00001005501805B49A880000E000 := by
  decide +kernel

/-! ### Session (section 4.5) -/

/-- S2, S5, S6, S13, S19, S23, S26, S29, S33: a row for each trigger and each state that moves. -/
theorem test_step :
    (let go := fun (st : BitVec 4) (cls : BitVec 14) (fr tw : Bool) =>
       let t := after (.step tw) { pe with state := st, req := 1, cls := cls, clsFresh := fr }
       (t.rdata.toNat, t.state.toNat, t.req.toNat, t.status)
     go 0 0 false false = (1, 1, 1, .ok) ∧ go 1 0x0066 true false = (2, 3, 1, .ok) ∧
     go 1 0x0066 false false = (0, 1, 1, .ok) ∧ go 4 0x0526 true false = (4, 5, 1, .ok) ∧
     go 5 0x00A6 true false = (7, 6, 1, .ok) ∧ go 6 0x0226 true false = (0, 7, 1, .ok) ∧
     go 7 0 false false = (2, 8, 1, .ok) ∧ go 8 0 false true = (0, 0, 0, .ok) ∧
     go 9 0x0066 true false = (0, 9, 1, .errState)) := by
  decide +kernel

/-- Q1 to Q3, Q7, Q10. -/
theorem test_requests :
    reply (after (.req 1) pe) = (1, .ok) ∧ reply (run [.req 1, .req 2] pe) = (0, .ok) ∧
    reply (after (.req 0) pe) = (0, .errArg) ∧ reply (run [.req 2, .step false, .ssmGet] pe) = (0x21, .ok) ∧
    reply (run [.bldTcpSyn, .ssmGetPort] pe) = (0x8235, .ok) := by
  decide +kernel

/-! ### Host, buffer and configuration commands (section 4.6) -/

/-- H3 to H5, H7, and R79: what a poll returns. -/
theorem test_rxPoll :
    (let poll := fun (f : Option (List Byte)) (ovf : Bool) (n : Nat) =>
       reply (after (.rxPoll n) { pe with env := { environment with rxFrame := f, rxOvf := ovf } })
     poll none true 1522 = (0x10000, .ok) ∧ poll (some ping) false 1522 = (50, .ok) ∧
     poll (some ping) false 40 = (40, .ok) ∧ poll (some ping) true 0 = (0x10000, .ok)) := by
  decide +kernel

/-- H9, H11. -/
theorem test_tx :
    reply (after .tx pe) = (0, .errArg) ∧
    (let s := run [.tx, .tx] (loaded ping)
     reply s = (1, .ok) ∧ s.txLog = [ping, ping]) := by
  decide +kernel

/-- H12, H14, H16, H17, H20. -/
theorem test_buffer_commands :
    reply (after (.bufRd 14) (loaded ping)) = (0x45, .ok) ∧ reply (after (.bufRd 1522) (loaded ping)) = (0, .errBounds) ∧
    reply (run [.bufWr 22 0x3F, .bufRd 22] (loaded ping)) = (0x3F, .ok) ∧
    reply (after (.bufWr 1522 0) (loaded ping)) = (0, .errBounds) ∧
    reply (after (.bufSetlen 1523) (loaded ping)) = (0, .errArg) ∧ reply (after .bufGetlen (loaded ping)) = (50, .ok) := by
  decide +kernel

/-- H21 to H28. -/
theorem test_configuration :
    reply (run [.cfgSetMac, .cfgGetMac] { pe with wdata := 0x0A0B0C0D0E0F }) = (0x0A0B0C0D0E0F, .ok) ∧
    reply (run [.cfgSetIp, .cfgGetIp] { pe with wdata := 0xC0A80A8B }) = (0xC0A80A8B, .ok) ∧
    reply (after .cfgSetIp { pe with wdata := 0x000100000000 }) = (0, .errArg) ∧
    reply (run [.cfgSetSn, .cfgGetSn] { pe with wdata := 0xFFFF0000 }) = (0xFFFF0000, .ok) ∧
    reply (run [.cfgSetGw, .cfgGetGw] { pe with wdata := 0xC0A80A02 }) = (0xC0A80A02, .ok) ∧
    reply (run [.cfgSetDhcp false, .cfgGetDhcp] pe) = (0, .ok) := by
  decide +kernel

/-! ### Steps -/

/-- A table word put where the next step takes it is the word that the step runs. -/
theorem test_withFetchWord :
    (match step (pe.withFetchWord 32 0x70000001) with
     | .next t => some (t.req, t.rdata, t.status, t.results.length)
     | _ => none) = some (1, 1, .ok, 1) ∧
    (match step (pe.withFetchWord 32 0) with
     | .next t => some (t.rdata, t.status)
     | _ => none) = some (0, .errOpcode) := by
  decide +kernel

/-- Program P5: after the classified ping, commands that fault leave `cls`, `frame_len` and `sum`. -/
theorem test_faults_leave_no_trace :
    (let s := after .classify (loaded ping)
     let t := run [.ckAcc 40 11, .getLenTpl, .bufSetlen 1523, .req 0] s
     t = { s with rdata := 0, status := .errArg }) := by
  decide +kernel

/-! ### Witnesses: for each obligation with hypotheses, concrete inputs that meet them, clause by clause -/

/-- An outcome is a next state. -/
def answers : Host.Outcome State Fault Refusal → Bool
  | .next _ => true
  | .fault _ => false
  | .refused _ => false

theorem next_of_answers {o : Host.Outcome State Fault Refusal} (h : answers o = true) : ∃ t, o = .next t := by
  cases o with
  | next t => exact ⟨t, rfl⟩
  | fault f => cases h
  | refused r => cases h

/-- A command on the port, with nothing else. -/
def command (cw : BitVec 32) : Command := { cw := cw, wdata := 0, s0 := [], s1 := [], env := environment }

/-- A frame loaded and the next stimulus pending. -/
def ready (x : Stimulus) : State := { loaded ping with pending := [x] }

theorem witness_DecodeEncode :
    (Instr.ckAcc 4095 4095).wellFormed = true ∧ (Instr.bldMqttPublish 0 4095).wellFormed = true ∧
    (Instr.bufWr 1521 255).wellFormed = true := by decide

theorem witness_EncodeDecode :
    decode (.command 0x2100E014) = .ok (.ckAcc 14 20) ∧ decode (.wire .mqttCtrl 0x10) = .ok .wireMqttCtrl10 :=
  ⟨rfl, rfl⟩

theorem witness_IllegalWordIsErrOpcode :
    (ready (.command (command 0))).pending = .command (command 0) :: [] ∧ ¬ legalWord (command 0).cw ∧
    ¬ legalWord 0x20000001 ∧ ¬ legalWord 0x70000004 ∧ legalWord 0x70000003 := by
  refine ⟨rfl, ?_, ?_, ?_, ?_⟩ <;> simp only [legalWord] <;> decide +kernel

theorem witness_StepRunsDecoded :
    ((ready (.command (command 0x62000000))).pending = .command (command 0x62000000) :: [] ∧
      decodeCommand (command 0x62000000).cw = .ok .bldIcmpReply) ∧
    (ready (.wire .ipProto 0x11)).pending = .wire .ipProto 0x11 :: [] ∧
    decodeWire .ipProto (0x11 : BitVec 16).toNat = .ok .wireIpProto11 := ⟨⟨rfl, rfl⟩, rfl, rfl⟩

theorem witness_StepResets : (ready .reset).pending = .reset :: [] := rfl

theorem witness_NeverStops : pe.pending = [] := rfl

/-- A state of the invariant that holds a frame. -/
theorem inv_ready (x : Stimulus) : (ready x).Inv where
  wf := by show Memory.wf (loaded ping).buf; decide +kernel
  inRange := by show Memory.inRange (loaded ping).buf; decide +kernel
  frameFits := by show (loaded ping).flen ≤ Config.bufCap; decide +kernel
  stateLegal := by show (loaded ping).state.toNat ≤ 8; decide +kernel

theorem witness_StepKeepsInv :
    (ready (.command (command 0x62000000))).Inv ∧ ∃ t, step (ready (.command (command 0x62000000))) = .next t :=
  ⟨inv_ready _, next_of_answers (by decide +kernel)⟩

/-- A session in PublishingMqtt, about to step. -/
def publishing : State :=
  { ready (.command (command 0x71000000)) with state := 4, req := 1, cls := 0x0526, clsFresh := true }

theorem witness_StepKeepsSessionInv : publishing.SessionInv ∧ ∃ t, step publishing = .next t :=
  ⟨⟨by decide +kernel, by decide +kernel, by decide +kernel⟩, next_of_answers (by decide +kernel)⟩

theorem witness_FaultsLeaveNoTrace :
    (exec .tx pe = .next (after .tx pe) ∧ (after .tx pe).status ≠ .ok) ∧
    Instr.isIp ∈ Instr.classify :: predicateCommands ∧ exec .isIp pe = .next (after .isIp pe) :=
  ⟨⟨exec_eq_after _ _, by decide +kernel⟩, by decide, exec_eq_after _ _⟩

theorem witness_SessionRegisterWriters :
    exec (.bldUdpReply 0) (loaded udp) = .next (after (.bldUdpReply 0) (loaded udp)) ∧
    (∀ tw, Instr.bldUdpReply 0 ≠ .step tw) ∧ (∀ k, Instr.bldUdpReply 0 ≠ .req k) ∧ Instr.bldUdpReply 0 ≠ .bldTcpSyn ∧
    Instr.bldUdpReply 0 ∉ Instr.classify :: eventCommands :=
  ⟨exec_eq_after _ _, by decide, by decide, by decide, by decide⟩

theorem witness_ConfigRegisterWriters :
    exec .cfgSetSn pe = .next (after .cfgSetSn pe) ∧ Instr.cfgSetSn ≠ .cfgSetMac ∧ Instr.cfgSetSn ≠ .cfgSetIp ∧
    Instr.cfgSetSn ≠ .cfgSetGw ∧ (∀ k, Instr.cfgSetSn ≠ .cfgSetDhcp k) ∧ Instr.cfgSetSn ≠ .tx ∧ Instr.tx ≠ .cfgSetSn :=
  ⟨exec_eq_after _ _, by decide, by decide, by decide, by decide, by decide, by decide⟩

theorem witness_AccumulatorWriters :
    exec .bldArpReply (loaded arpRequest) = .next (after .bldArpReply (loaded arpRequest)) ∧
    Instr.bldArpReply ≠ .ckReset ∧ (∀ off len, Instr.bldArpReply ≠ .ckAcc off len) ∧
    (∀ imm, Instr.bldArpReply ≠ .ckAccW16 imm) ∧ Instr.bldArpReply ≠ .ckFinal ∧ Instr.bldArpReply ≠ .isIp ∧
    Instr.bldArpReply ≠ .isUdpValid ∧ Instr.bldArpReply ≠ .classify ∧ ¬ isIpBuilder .bldArpReply :=
  ⟨exec_eq_after _ _, by decide, by intros; nofun, by intros; nofun, by decide, by decide, by decide, by decide,
    by simp [isIpBuilder, isMqttBuilder]⟩

theorem witness_BufferWriters :
    exec .classify (loaded ping) = .next (after .classify (loaded ping)) ∧ (∀ len, Instr.classify ≠ .rxPoll len) ∧
    (∀ idx b, Instr.classify ≠ .bufWr idx b) ∧ (∀ f : Field, Instr.classify ≠ f.putInstr) ∧
    (∀ len, Instr.classify ≠ .bufSetlen len) ∧ ¬ isBuilder .classify ∧
    (after (.bufSetlen 7) (loaded ping)).frameLen ≠ (loaded ping).frameLen :=
  ⟨exec_eq_after _ _, by intros; nofun, by intros; nofun, by intro f; cases f <;> decide, by intros; nofun,
    by simp [isBuilder, isIpBuilder, isMqttBuilder], by decide +kernel⟩

/-- The last clause, on a classified frame: a command that keeps both registers, and STEP, which keeps `cls` alone. -/
theorem witness_BufferWriters_keeps :
    (∀ i ∈ [Instr.clsGet, .step false],
      exec i (after .classify (loaded ping)) = .next (after i (after .classify (loaded ping))) ∧
      (∀ len, i ≠ .rxPoll len) ∧ (∀ idx b, i ≠ .bufWr idx b) ∧ (∀ len, i ≠ .bufSetlen len) ∧
      (∀ f : Field, i ≠ f.putInstr) ∧ ¬ isBuilder i ∧ i ≠ .classify) ∧
    (∀ tw, Instr.clsGet ≠ .step tw) ∧ (after .classify (loaded ping)).cls ≠ 0 := by
  refine ⟨?_, by decide, by decide +kernel⟩
  simp only [List.forall_mem_cons]
  refine ⟨⟨exec_eq_after _ _, by intros; nofun, by intros; nofun, by intros; nofun, by intro f; cases f <;> decide,
      by simp [isBuilder, isIpBuilder, isMqttBuilder], by decide⟩,
    ⟨exec_eq_after _ _, by intros; nofun, by intros; nofun, by intros; nofun, by intro f; cases f <;> decide,
      by simp [isBuilder, isIpBuilder, isMqttBuilder], by decide⟩, by simp⟩

theorem witness_CkAccSums : 14 + 36 ≤ (loaded ping).flen ∧ (loaded ping).flen < 14 + 37 := by decide +kernel

theorem witness_CkFinalFolds :
    exec .ckFinal pe = .next (after .ckFinal pe) ∧
    exec .ckFinal (after .ckFinal pe) = .next (after .ckFinal (after .ckFinal pe)) :=
  ⟨exec_eq_after _ _, exec_eq_after _ _⟩

theorem witness_CkAccSplits : 14 + (7 + 29) ≤ (loaded ping).flen ∧ 50 + (0 + 0) ≤ (loaded ping).flen := by
  decide +kernel

/-- The ping with its header checksum cleared. -/
def unsealed : State := { loaded (ping.set 24 0 |>.set 25 0) with pending := [] }

theorem witness_CkRoundTrip :
    unsealed.Inv ∧ 14 + 20 ≤ unsealed.flen ∧ 10 % 2 = 0 ∧ 10 + 2 ≤ 20 ∧ unsealed.byteAt (14 + 10) = 0 ∧
    unsealed.byteAt (14 + 10 + 1) = 0 ∧
    ∃ t u, runAll [.ckReset, .ckAcc 14 20, .ckFinal] unsealed = .next t ∧
      runAll [.bufWr (14 + 10) (BitVec.ofNat 8 (t.rdata.toNat / 256)), .bufWr (14 + 10 + 1) (BitVec.ofNat 8 t.rdata.toNat),
        .ckReset, .ckAcc 14 20, .ckFinal] t = .next u := by
  refine ⟨⟨by decide +kernel, by decide +kernel, by decide +kernel, by decide +kernel⟩, by decide +kernel, rfl,
    by decide, by decide +kernel, by decide +kernel, ?_⟩
  obtain ⟨t, ht⟩ := next_of_answers (o := runAll [.ckReset, .ckAcc 14 20, .ckFinal] unsealed) (by decide +kernel)
  simp only [runAll, exec_eq_after] at ht ⊢
  exact ⟨t, _, ht, rfl⟩

theorem witness_PseudoCkIp :
    (⟨34, 36, 5, 0⟩ : Obtained).h = ((loaded ping).byteAt 14).toNat % 16 ∧ 15 ≤ (loaded ping).flen ∧
    14 + 4 * (⟨34, 36, 5, 0⟩ : Obtained).h ≤ (loaded ping).flen ∧ 14 + 4 * 5 = ((loaded ping).setFlen 34).flen := by
  decide +kernel

/-- A whole field that ends with the frame, and one byte past it; a nibble; a base that is not in frame. -/
theorem witness_GetReadsField :
    (let s := (loaded ping).setFlen 34
     s.baseInFrame (fieldDesc .ipDst).base = true ∧
     s.baseAddr (fieldDesc .ipDst).base + (fieldDesc .ipDst).off + (fieldDesc .ipDst).shape.bytesTouched ≤ s.flen ∧
     (fieldDesc .ipDst).shape = .bytes 4 ∧ s.baseInFrame (fieldDesc .ipVer).base = true ∧
     (fieldDesc .ipVer).shape = .hi ∧ (fieldDesc .ipIhl).shape = .lo ∧
     ¬ s.baseAddr (fieldDesc .icmpType).base + (fieldDesc .icmpType).off + 1 ≤ s.flen ∧
     ¬ pe.baseInFrame (fieldDesc .icmpType).base = true) := by
  decide +kernel

/-- The widest value of a byte, the first too wide one, and a field that is not in frame. -/
theorem witness_PutWritesField :
    (let s := { loaded ping with wdata := 255 }
     s.wdata.toNat < 2 ^ (fieldDesc .ipTtl).shape.bits ∧ s.baseInFrame (fieldDesc .ipTtl).base = true ∧
     s.baseAddr (fieldDesc .ipTtl).base + (fieldDesc .ipTtl).off + (fieldDesc .ipTtl).shape.bytesTouched ≤ s.flen ∧
     (fieldDesc .ipTtl).shape = .bytes 1 ∧ 0 < 1 ∧ (fieldDesc .ipVer).shape = .hi ∧ (fieldDesc .ipIhl).shape = .lo ∧
     (15 : Nat) < 2 ^ (fieldDesc .ipVer).shape.bits ∧ 2 ^ (fieldDesc .ipVer).shape.bits ≤ (16 : Nat) ∧
     2 ^ (fieldDesc .ipTtl).shape.bits ≤ (256 : Nat) ∧ ¬ pe.baseInFrame (fieldDesc .icmpType).base = true) := by
  decide +kernel

theorem witness_PutThenGet :
    (let s := { loaded connack with wdata := 255 }
     ((fieldDesc .mqttCtrl).base = .l4 ∨ (fieldDesc .mqttCtrl).base = .pl →
       14 < s.baseAddr (fieldDesc .mqttCtrl).base + (fieldDesc .mqttCtrl).off) ∧
     ((fieldDesc .mqttCtrl).base = .pl →
       ¬ (s.baseAddr (fieldDesc .mqttCtrl).base + (fieldDesc .mqttCtrl).off ≤ s.baseAddr .l4 + 12 ∧
         s.baseAddr .l4 + 12 < s.baseAddr (fieldDesc .mqttCtrl).base + (fieldDesc .mqttCtrl).off + 1)) ∧
     (after Field.mqttCtrl.putInstr s).status = .ok) ∧
    ∀ s, exec Field.mqttCtrl.putInstr s = .next (after Field.mqttCtrl.putInstr s) ∧
      exec Field.mqttCtrl.getInstr s = .next (after Field.mqttCtrl.getInstr s) :=
  ⟨by decide +kernel, fun _ => ⟨exec_eq_after _ _, exec_eq_after _ _⟩⟩

/-- Each quantity at the shortest frame that has it, out of range, and one byte short. -/
theorem witness_DerivedQuantities :
    (let cut := fun (f : List Byte) (n : Nat) => (loaded f).setFlen n
     let l4 := fun (s : State) => 14 + 4 * ((s.byteAt 14).toNat % 16)
     15 ≤ (cut ping 15).flen ∧ (cut ping 14).flen < 15 ∧
     l4 (cut connack 47) + 13 ≤ (cut connack 47).flen ∧ (cut connack 46).flen < l4 (cut connack 46) + 13 ∧
     4 * 5 + 4 * 5 ≤ (cut connack 47).memRead 16 2 ∧ (cut ping 47).memRead 16 2 < 4 * 5 + 4 * 6 ∧
     ((cut ping 47).byteAt (l4 (cut ping 47) + 12)).toNat / 16 = 6 ∧ (cut connack 17).flen < 18 ∧
     l4 (cut udp 40) + 6 ≤ (cut udp 40).flen ∧ 8 ≤ (cut udp 40).memRead (l4 (cut udp 40) + 4) 2 ∧
     (run [.bufWr 39 7] (cut udp 40)).memRead (l4 (cut udp 40) + 4) 2 < 8 ∧ (cut udp 39).flen < l4 (cut udp 39) + 6 ∧
     18 ≤ (cut ping 18).flen ∧ 4 * 5 + 8 ≤ (cut ping 18).memRead 16 2 ∧
     (run [.bufWr 17 27] (cut ping 18)).memRead 16 2 < 4 * 5 + 8 ∧ (cut ping 17).flen < 18) := by
  decide +kernel

/-- Not IPv4, no byte of the header, one byte too few, the shortest whole header. -/
theorem witness_IsIpVerifiesHeader :
    ((loaded arpRequest).memRead 12 2 ≠ 0x0800 ∧ ((loaded ping).setFlen 14).flen = 14 ∧
      ((loaded ping).setFlen 13).flen < 14) ∧
    (15 ≤ ((loaded ping).setFlen 33).flen ∧ ((loaded ping).setFlen 33).memRead 12 2 = 0x0800 ∧
      ((loaded ping).setFlen 33).flen < 14 + 4 * (((loaded ping).byteAt 14).toNat % 16)) ∧
    15 ≤ ((loaded ping).setFlen 34).flen ∧ ((loaded ping).setFlen 34).memRead 12 2 = 0x0800 ∧
    14 + 4 * (((loaded ping).byteAt 14).toNat % 16) ≤ ((loaded ping).setFlen 34).flen := by
  decide +kernel

/-- The four cases: not UDP or no length; a pseudo-header out of frame (a header length of 0 brings the UDP length to byte
18); a datagram one byte out of frame; a whole datagram. -/
theorem witness_IsUdpValidVerifiesDatagram :
    ((loaded ping).byteAt 23 ≠ 17 ∧ ((loaded udp).setFlen 39).flen < 34 + 6) ∧
    (let s := (run [.bufWr 14 0x40, .bufWr 19 8] (loaded udp)).setFlen 33
     24 ≤ s.flen ∧ s.byteAt 23 = 17 ∧ (14 + 4 * ((s.byteAt 14).toNat % 16)) + 6 ≤ s.flen ∧
     8 ≤ s.memRead (14 + 4 * ((s.byteAt 14).toNat % 16) + 4) 2 ∧ s.flen < 34) ∧
    (let s := (loaded udp).setFlen 46
     34 ≤ s.flen ∧ s.byteAt 23 = 17 ∧ 34 + 6 ≤ s.flen ∧ 8 ≤ s.memRead (34 + 4) 2 ∧ s.flen < 34 + s.memRead (34 + 4) 2) ∧
    34 ≤ (loaded udp).flen ∧ (loaded udp).byteAt 23 = 17 ∧ 8 ≤ (loaded udp).memRead (34 + 4) 2 ∧
    34 + (loaded udp).memRead (34 + 4) 2 ≤ (loaded udp).flen := by
  decide +kernel

/-- C17 and C18: the shortest frame with a flag byte, and one byte less. -/
theorem witness_FlagPredicatesLatch :
    (Instr.isPshack, 0x18) ∈ [(Instr.isSynack, 0x12), (.isAck, 0x10), (.isPshack, 0x18), (.isFinack, 0x11)] ∧
    (let s := (loaded connack).setFlen 48
     34 + 14 ≤ s.flen ∧ (s.byteAt (34 + 13)).toNat = 0x18 ∧ 4 * 5 + 4 * 5 ≤ s.memRead 16 2) ∧
    ¬ 34 + 14 ≤ ((loaded connack).setFlen 47).flen := by
  decide +kernel

/-- C16: the first payload byte just in frame, and one byte less. -/
theorem witness_MqttPredicatesLatch :
    (Instr.isConnack, 0x20) ∈
      [(Instr.isConnack, 0x20), (.isPubsuback, 0x90), (.isUnsuback, 0xB0), (.isPingresp, 0xD0)] ∧
    (let s := (loaded connack).setFlen 55
     34 + 14 ≤ s.flen ∧ 4 * 5 + 4 * 5 + 1 ≤ s.memRead 16 2 ∧ 34 + 4 * 5 + 1 ≤ s.flen ∧
     (s.byteAt (34 + 4 * 5)).toNat = 0x20) ∧
    ¬ 34 + 4 * 5 + 1 ≤ ((loaded connack).setFlen 54).flen := by
  decide +kernel

/-- An event bit that is set, and a frame that sets none; bit 2 set, over a datagram that the UDP check sums, and bit 2 not
set. -/
theorem witness_ClassifyGates :
    (eventCommands[0]? = some Instr.isSynack ∧ (after .classify (loaded synAck)).cls.getLsbD (6 + 0) = true ∧
      exec .isSynack (loaded synAck) = .next (after .isSynack (loaded synAck))) ∧
    (∀ k, k < 8 → (after .classify (loaded ping)).cls.getLsbD (6 + k) = false) ∧
    ((after .classify (loaded udp)).cls.getLsbD 2 = true ∧ exec .isIp (loaded udp) = .next (after .isIp (loaded udp)) ∧
      exec .isUdpValid (after .isIp (loaded udp)) = .next (after .isUdpValid (after .isIp (loaded udp)))) ∧
    (after .classify (loaded arpRequest)).cls.getLsbD 2 = false ∧
    exec .isIp (loaded arpRequest) = .next (after .isIp (loaded arpRequest)) :=
  ⟨⟨rfl, by decide +kernel, exec_eq_after _ _⟩, by decide +kernel,
    ⟨by decide +kernel, exec_eq_after _ _, exec_eq_after _ _⟩, by decide +kernel, exec_eq_after _ _⟩

theorem witness_ClassifyExclusive : exec .classify (loaded synAck) = .next (after .classify (loaded synAck)) :=
  exec_eq_after _ _

theorem witness_ClassifiersIdempotent :
    Instr.isUdpValid ∈ Instr.classify :: predicateCommands ∧
    exec .isUdpValid (loaded udp) = .next (after .isUdpValid (loaded udp)) := ⟨by decide, exec_eq_after _ _⟩

/-- Two states that hold the same frame and differ in another register and in a byte beyond the frame. -/
theorem witness_ClassifiersReadFrameOnly :
    (let s := (loaded ping).setFlen 49
     let s' := { s.storeBytes 49 [0xFF] with sum := 7 }
     Instr.classify ∈ Instr.classify :: predicateCommands ∧ s.frameLen = s'.frameLen ∧ s.localIp = s'.localIp ∧
     (∀ a, a < s.flen → s.byteAt a = s'.byteAt a) ∧ s.byteAt 49 ≠ s'.byteAt 49 ∧ s.sum ≠ s'.sum) ∧
    ∀ s, exec .classify s = .next (after .classify s) :=
  ⟨by decide +kernel, fun _ => exec_eq_after _ _⟩

theorem witness_ArpReplyBuilds : 42 ≤ (loaded arpRequest).flen ∧ ((loaded arpRequest).setFlen 41).flen < 42 := by
  decide +kernel

theorem witness_ArpRequestBuilds :
    ({ pe with wdata := 0xFFFFFFFF } : State).wdata.toNat < 2 ^ 32 ∧
    2 ^ 32 ≤ ({ pe with wdata := 0x100000000 } : State).wdata.toNat := by decide +kernel

/-- Frame FB whole; one byte short (B5); no header; an IP length one byte too small. -/
theorem witness_IcmpReplyBuilds :
    (let s := loaded ping
     ¬ (s.flen < 34 ∨ s.memRead 16 2 < 4 * 5 + 8 ∨ s.flen < 34 + (s.memRead 16 2 - 4 * 5)) ∧
     5 ≤ (s.byteAt 14).toNat % 16) ∧
    ((loaded ping).setFlen 49).flen < 34 + (((loaded ping).setFlen 49).memRead 16 2 - 4 * 5) ∧
    ((loaded ping).setFlen 33).flen < 34 ∧ (run [.bufWr 17 27] (loaded ping)).memRead 16 2 < 4 * 5 + 8 := by
  decide +kernel

/-- The largest reply (B8), one byte more (B9), and a frame one byte short (B11). -/
theorem witness_UdpReplyBuilds :
    (let s := withStreams (List.replicate 1480 0) [] (loaded udp)
     ¬ (s.flen < 34 ∨ s.flen < 34 + 8 ∨ 1522 < 34 + 8 + 1480) ∧ 5 ≤ (s.byteAt 14).toNat % 16 ∧ s.s0.length = 1480) ∧
    (1522 < 34 + 8 + 1481) ∧ ((loaded udp).setFlen 41).flen < 34 + 8 ∧ ((loaded udp).setFlen 33).flen < 34 := by
  decide +kernel

/-- B18 and B19: a variable part of 127 bytes and one of 128. -/
theorem witness_MqttBuildersEmit :
    (let s := withStreams (List.replicate 3 0) (List.replicate 122 0) pe
     (beBytes 2 s.s0.length ++ s.s0 ++ s.s1).length ≤ 127) ∧
    (let s := withStreams (List.replicate 3 0) (List.replicate 123 0) pe
     127 < (beBytes 2 s.s0.length ++ s.s0 ++ s.s1).length) := by
  decide +kernel

theorem witness_BuiltFramesPassIsIp :
    isIpBuilder .bldIcmpReply ∧ 5 ≤ ((loaded ping).byteAt 14).toNat % 16 ∧ (loaded ping).memRead 12 2 = 0x0800 ∧
    exec .bldIcmpReply (loaded ping) = .next (after .bldIcmpReply (loaded ping)) ∧
    (after .bldIcmpReply (loaded ping)).status = .ok ∧
    exec .isIp (after .bldIcmpReply (loaded ping)) = .next (after .isIp (after .bldIcmpReply (loaded ping))) :=
  ⟨.inl rfl, by decide +kernel, by decide +kernel, exec_eq_after _ _, by decide +kernel, exec_eq_after _ _⟩

theorem witness_RequestTaken :
    ((3 : BitVec 2) ≠ 0 ∧ pe.req = 0) ∧ ((1 : BitVec 2) ≠ 0 ∧ publishing.req ≠ 0) ∧ (0 : BitVec 2) = 0 := by
  decide +kernel

/-- Each row of the table: its state, with a request, its trigger and its absence. -/
theorem witness_StepTable :
    (let at' := fun (st : BitVec 4) (cls : BitVec 14) => { pe with state := st, req := 1, cls := cls, clsFresh := true }
     (∀ st, (at' st 0).req ≠ 0 ∧ (at' st 0).state = st) ∧
     ((at' 1 0x0066).clsFresh = true ∧ (at' 1 0x0066).cls.getLsbD 6 = true) ∧
     ((at' 4 0x0526).clsFresh = true ∧ (at' 4 0x0526).cls.getLsbD 10 = true) ∧
     ((at' 5 0x00A6).clsFresh = true ∧ (at' 5 0x00A6).cls.getLsbD 7 = true) ∧
     ((at' 6 0x0226).clsFresh = true ∧ (at' 6 0x0226).cls.getLsbD 9 = true) ∧
     (∀ k, ¬ (pe.clsFresh = true ∧ pe.cls.getLsbD k = true)) ∧ pe.req = 0 ∧
     ({ pe with state := 8 } : State).state.toNat ≤ 8) := by
  refine ⟨fun st => ⟨show (1 : BitVec 2) ≠ 0 by decide, rfl⟩, by decide +kernel, by decide +kernel, by decide +kernel, by decide +kernel, ?_,
    by decide +kernel, by decide +kernel⟩
  rintro k ⟨h, -⟩; exact absurd h (by decide +kernel)

theorem witness_ReservedStateFaults :
    8 < ({ pe with state := 9 } : State).state.toNat ∧ 8 < ({ pe with state := 15 } : State).state.toNat := by
  decide +kernel

/-- A session that waits for the CONNACK, over a frame that is received, built, and never classified. -/
theorem witness_StallWithoutClassify :
    (let s := { loaded ping with state := 4, req := 1 }
     s.state ∈ [(1 : BitVec 4), 4, 5, 6] ∧ s.req ≠ 0 ∧ s.clsFresh = false ∧
     Instr.classify ∉ [Instr.step false, .bldArpReply, .req 2, .step true]) ∧
    ∃ t, runAll [Instr.step false, .bldArpReply, .req 2, .step true] { loaded ping with state := 4, req := 1 } = .next t :=
  ⟨by decide +kernel, by simp only [runAll, exec_eq_after]; exact ⟨_, rfl⟩⟩

/-- A classified frame, as CLASSIFY leaves it. -/
def fed (cls : BitVec 14) (s : State) : State := { s with cls := cls, clsFresh := true }

/-- The session of section 1.5, with the classifications of the frames FE, FD, FG and FH fed in. -/
theorem witness_SessionProgression :
    (let step' := fun (s : State) => after (.step false) s
     let b0 := after (.req 1) pe
     let b1 := step' b0
     let a2 := fed 0x0066 b1
     let b3 := step' (step' a2)
     let a4 := fed 0x0526 b3
     let b4 := step' a4
     let a5 := fed 0x00A6 b4
     let b5 := step' a5
     let a6 := fed 0x0226 b5
     (1 : BitVec 2) ≠ 0 ∧ pe.state = 0 ∧ pe.req = 0 ∧
     (a2.state = b1.state ∧ a2.req = b1.req ∧ a2.clsFresh = true ∧ a2.cls.getLsbD 6 = true) ∧
     (a4.state = b3.state ∧ a4.req = b3.req ∧ a4.clsFresh = true ∧ a4.cls.getLsbD 10 = true) ∧
     (a5.state = b4.state ∧ a5.req = b4.req ∧ a5.clsFresh = true ∧ a5.cls.getLsbD 7 = true) ∧
     a6.state = b5.state ∧ a6.req = b5.req ∧ a6.clsFresh = true ∧ a6.cls.getLsbD 9 = true) ∧
    ∀ i s, exec i s = .next (after i s) :=
  ⟨by decide +kernel, exec_eq_after⟩

/-- Nothing offered; a frame cut by the operand; a frame cut by the buffer. -/
theorem witness_RxPollReceives :
    pe.env.rxFrame = none ∧ ({ pe with env := { environment with rxFrame := some ping } } : State).env.rxFrame = some ping ∧
    ({ pe with env := { environment with rxFrame := some (List.replicate 1600 0) } } : State).env.rxFrame =
      some (List.replicate 1600 0) := ⟨rfl, rfl, rfl⟩

theorem witness_TxTransmits : pe.flen = 0 ∧ ((loaded ping).setFlen 1).flen ≠ 0 := by decide +kernel

theorem witness_BufferCommands : 1521 < 1522 ∧ 1522 ≤ 1522 ∧ 1522 < 1523 := by decide

theorem witness_ConfigWrites :
    ({ pe with wdata := 0xFFFFFFFF } : State).wdata.toNat < 2 ^ 32 ∧
    2 ^ 32 ≤ ({ pe with wdata := 0x100000000 } : State).wdata.toNat := by decide +kernel

theorem witness_ConfigReadsBack :
    (Instr.cfgSetIp, Instr.cfgGetIp) ∈ [(Instr.cfgSetMac, Instr.cfgGetMac), (.cfgSetIp, .cfgGetIp), (.cfgSetSn, .cfgGetSn),
      (.cfgSetGw, .cfgGetGw)] ∧
    exec .cfgSetIp { pe with wdata := 0xFFFFFFFF } = .next (after .cfgSetIp { pe with wdata := 0xFFFFFFFF }) ∧
    (after .cfgSetIp { pe with wdata := 0xFFFFFFFF }).status = .ok ∧
    (∀ s, exec .cfgGetIp s = .next (after .cfgGetIp s)) ∧
    exec (.cfgSetDhcp false) pe = .next (after (.cfgSetDhcp false) pe) ∧
    exec .cfgGetDhcp (after (.cfgSetDhcp false) pe) = .next (after .cfgGetDhcp (after (.cfgSetDhcp false) pe)) :=
  ⟨by decide, exec_eq_after _ _, by decide +kernel, fun _ => exec_eq_after _ _, exec_eq_after _ _, exec_eq_after _ _⟩

/-- A wire row whose field has its value, and one whose field is not in frame. -/
theorem witness_WireRowsCompare :
    reply (after .wireIpProto01 (loaded ping)) = (1, .ok) ∧ reply (after .wireMqttCtrl20 (loaded connack)) = (1, .ok) ∧
    reply (after .wireMqttCtrl20 (loaded synAck)) = (0, .ok) := by
  decide +kernel

end Sys2Proof.Tests
end

section
/-! PROOF. The memory primitives of R14 byte by byte, and the named bases of R17. -/

namespace Sys2Proof.Machine

/-- The big-endian value of a region in positional form: the byte `k` places in weighs `256 ^ (n - 1 - k)` (R14).
The induction drops the first byte, which is the most significant one. -/
theorem State.memRead_eq_sum (s : State) (a n : Nat) :
    s.memRead a n = ((List.range n).map (fun k => (s.byteAt (a + k)).toNat * 256 ^ (n - 1 - k))).sum := by
  induction n generalizing a with
  | zero => rfl
  | succ n ih =>
    have hfirst : s.bytesAt a (n + 1) = s.byteAt a :: s.bytesAt (a + 1) n := by
      rw [Nat.add_comm n 1, State.bytesAt_add, State.bytesAt_one, List.singleton_append]
    have hrest : s.memRead a (n + 1) = (s.byteAt a).toNat * 256 ^ n + s.memRead (a + 1) n := by
      rw [State.memRead, hfirst, beValue_cons, State.bytesAt_length, State.memRead]
    rw [hrest, ih, List.range_succ_eq_map, List.map_cons, List.sum_cons, List.map_map]
    congr 2
    refine List.map_congr_left fun k _ => ?_
    simp only [Function.comp_apply, show a + 1 + k = a + k.succ by omega,
      show n - 1 - k = n + 1 - 1 - k.succ by omega]

/-- The byte `x - a` places into a written number, most significant first (R14). -/
theorem State.byteAt_memWrite_of_mem {a n v x : Nat} (s : State) (h : a ≤ x ∧ x < a + n) :
    (s.memWrite a n v).byteAt x = BitVec.ofNat 8 (v / 256 ^ (n - 1 - (x - a))) := by
  rw [State.byteAt_memWrite, if_pos h, List.getD_eq_getElem?_getD, beBytes_getElem? n v (x - a) (by omega),
    Option.getD_some]

/-- Settles O25: a read is the positional sum of its bytes, and a write's bytes are those of its number, with every other
byte kept. -/
theorem memoryPrimitives : Obligations.MemoryPrimitives := by
  refine ⟨State.memRead_eq_sum, fun s a n v x => ?_⟩
  split
  · next h => exact State.byteAt_memWrite_of_mem s h
  · next h => exact State.byteAt_memWrite_of_not h

/-- `L4` from the low nibble of the byte at 14, which is `IHL` (R17). -/
theorem State.baseAddr_l4 (s : State) : s.baseAddr .l4 = 14 + 4 * ((s.byteAt 14).toNat % 16) := rfl

/-- `PL` from the high nibble of the byte 12 past `L4`, which is `DOFF` (R17). -/
theorem State.baseAddr_pl (s : State) :
    s.baseAddr .pl = s.baseAddr .l4 + 4 * ((s.byteAt (s.baseAddr .l4 + 12)).toNat / 16) := rfl

/-- Settles O26: `ETH` and `IPB` are constants and always resolve; `L4` and `PL` resolve when the nibbles they come from are
in frame. -/
theorem baseResolution : Obligations.BaseResolution := fun s =>
  ⟨rfl, rfl, s.baseAddr_l4, s.baseAddr_pl, rfl, rfl, State.l4InFrame_iff, State.plInFrame_iff⟩

end Sys2Proof.Machine
end

section
/-! PROOF. What each instruction may write (R20): one inversion of `exec` by registers, the frame it leaves, and the writers of
every register. -/

namespace Sys2Proof.Machine

/-! ### What the predicates leave (R302, R320, R326) -/

/-- The event latch of a state. -/
def State.latched (s : State) : Latch := ⟨s.peerSeq, s.peerAck, s.consumedLen, s.lastSport, s.lastDport⟩

theorem State.setLatch_latched (s : State) : s.setLatch s.latched = s := rfl

/-- A TCP-event predicate writes the latch only. -/
theorem latchIf_state (b : Bool) (s : State) : ∃ l, (latchIf b s).state = s.setLatch l := by
  unfold latchIf
  split
  · split
    · exact ⟨_, rfl⟩
    · exact ⟨s.latched, s.setLatch_latched.symm⟩
  · exact ⟨s.latched, s.setLatch_latched.symm⟩

/-- `IS_IP` writes the accumulator only. -/
theorem isIp_state (s : State) : ∃ c, (isIp s).state = s.withAcc c := by
  unfold isIp
  split
  · exact ⟨_, rfl⟩
  · exact ⟨s.acc, rfl⟩

/-- `IS_UDP_VALID` writes the accumulator only. -/
theorem isUdpValid_state (s : State) : ∃ c, (isUdpValid s).state = s.withAcc c := by
  unfold isUdpValid
  split
  · exact ⟨_, rfl⟩
  · exact ⟨s.acc, rfl⟩

/-- A gated predicate leaves what the predicate leaves, or the state as it was. -/
theorem gated_state (g : Bool) (p : State → Answer) (s : State) :
    (gated g p s).state = (p s).state ∨ (gated g p s).state = s := by
  cases g
  · exact .inr rfl
  · exact .inl rfl

/-- A predicate that leaves the state leaves it behind any gate. -/
theorem gated_state_of_pure {p : State → Answer} (hp : ∀ s, (p s).state = s) (g : Bool) (s : State) :
    (gated g p s).state = s := by
  rcases gated_state g p s with h | h
  · rw [h, hp]
  · exact h

/-- Each of the eight event predicates of CLASSIFY writes the latch only. -/
theorem eventPredicates_state : ∀ p ∈ eventPredicates, ∀ s : State, ∃ l, (p s).state = s.setLatch l := by
  simp only [eventPredicates, List.forall_mem_cons]
  exact ⟨fun _ => latchIf_state _ _, fun _ => latchIf_state _ _, fun _ => latchIf_state _ _, fun _ => latchIf_state _ _,
    fun _ => latchIf_state _ _, fun _ => latchIf_state _ _, fun _ => latchIf_state _ _, fun _ => latchIf_state _ _, nofun⟩

/-- Asking predicates that write the latch only writes the latch only. -/
theorem askAll_state (g : Bool) (ps : List (State → Answer))
    (h : ∀ p ∈ ps, ∀ s : State, ∃ l, (p s).state = s.setLatch l) (s : State) : ∃ l, (askAll g ps s).1 = s.setLatch l := by
  induction ps generalizing s with
  | nil => exact ⟨s.latched, s.setLatch_latched.symm⟩
  | cons p ps ih =>
    obtain ⟨l, hl⟩ := ih (fun q hq => h q (List.mem_cons_of_mem _ hq)) (gated g p s).state
    obtain ⟨m, hm⟩ := h p List.mem_cons_self s
    refine ⟨l, hl.trans ?_⟩
    rcases gated_state g p s with hg | hg
    · rw [hg, hm]; rfl
    · rw [hg]

/-- Asking CLASSIFY's fourteen predicates writes the accumulator and the latch only (R320, R326). -/
theorem classifyBits_state (s : State) : ∃ c l, (classifyBits s).1 = (s.withAcc c).setLatch l := by
  have huni : ∀ g u, (gated g isIpUnicast u).state = u := gated_state_of_pure fun _ => rfl
  have hping : ∀ g u, (gated g isPingReq u).state = u := gated_state_of_pure fun _ => rfl
  have htcp : ∀ g u, (gated g isTcp u).state = u := gated_state_of_pure fun _ => rfl
  have harp : (isArpReq s).state = s := rfl
  simp only [classifyBits, huni, hping, htcp, harp]
  obtain ⟨c, hc⟩ := isIp_state s
  obtain ⟨d, hd⟩ := isUdpValid_state (s.withAcc c)
  obtain ⟨l, hl⟩ := askAll_state _ eventPredicates eventPredicates_state _
  rw [hl, hc]
  rcases gated_state _ isUdpValid (s.withAcc c) with hg | hg
  · rw [hg, hd]; exact ⟨d, l, rfl⟩
  · rw [hg]; exact ⟨c, l, rfl⟩

/-! ### What the builders leave (R342) -/

/-- Other bytes in the buffer and another `frame_len`. -/
def State.reframe (m : List Host.Cell) (n : BitVec 16) (s : State) : State := { s with buf := m, frameLen := n }

/-- `t` is `s` up to the frame. -/
def State.Reframed (s t : State) : Prop := ∃ m n, t = s.reframe m n

theorem State.Reframed.refl (s : State) : s.Reframed s := ⟨s.buf, s.frameLen, rfl⟩

theorem State.Reframed.storeBytes {s t : State} (h : s.Reframed t) (a : Nat) (bs : List Byte) :
    s.Reframed (t.storeBytes a bs) := by
  obtain ⟨m, n, rfl⟩ := h; exact ⟨_, n, rfl⟩

theorem State.Reframed.setFlen {s t : State} (h : s.Reframed t) (k : Nat) : s.Reframed (t.setFlen k) := by
  obtain ⟨m, n, rfl⟩ := h; exact ⟨m, _, rfl⟩

theorem State.Reframed.storeField {s t : State} (h : s.Reframed t) (f : Field) (v : Nat) :
    s.Reframed (t.storeField f v) := by
  rw [State.storeField_eq]; exact h.storeBytes _ _

theorem State.Reframed.swapFields {s t : State} (h : s.Reframed t) (f g : Field) : s.Reframed (t.swapFields f g) :=
  (h.storeBytes _ _).storeBytes _ _

/-- `t` is `s` up to the frame and the accumulator: what a builder does before it ends. -/
def State.Rebuilt (s t : State) : Prop := ∃ c, (s.withAcc c).Reframed t

theorem State.Reframed.rebuilt {s t : State} (h : s.Reframed t) : s.Rebuilt t := ⟨s.acc, h⟩

theorem State.Rebuilt.storeField {s t : State} (h : s.Rebuilt t) (f : Field) (v : Nat) : s.Rebuilt (t.storeField f v) := by
  obtain ⟨c, hc⟩ := h; exact ⟨c, hc.storeField f v⟩

theorem State.Rebuilt.withAcc {s t : State} (h : s.Rebuilt t) (d : Acc) : s.Rebuilt (t.withAcc d) := by
  obtain ⟨c, m, n, rfl⟩ := h; exact ⟨d, m, n, rfl⟩

theorem State.Rebuilt.storeChecksum {s t u : State} (h : s.Rebuilt t) {f : Field} {o : CkOut}
    (hu : storeChecksum f o t = some u) : s.Rebuilt u := by
  obtain ⟨c, r⟩ := o
  cases r with
  | none => cases hu
  | some r => rw [storeChecksum_some] at hu; cases hu; exact (h.withAcc c).storeField f _

theorem State.Rebuilt.sealIp {s t u : State} (h : s.Rebuilt t) (hu : sealIp t = some u) : s.Rebuilt u :=
  (h.storeField .ipCsum 0).storeChecksum hu

/-- What the ICMP reply's and the UDP reply's first statements do: both address pairs exchanged (R346, R347). -/
theorem State.Reframed.swapAddresses (s : State) : s.Reframed ((s.swapFields .ethDst .ethSrc).swapFields .ipSrc .ipDst) :=
  ((State.Reframed.refl s).swapFields _ _).swapFields _ _

theorem icmpReply_rebuilt {n : Nat} {s t : State} (h : icmpReply n s = some t) : s.Rebuilt t := by
  obtain ⟨u, hu, ht⟩ := Option.bind_eq_some_iff.1 h
  have htyped := ((State.Reframed.swapAddresses s).storeField .icmpType 0).setFlen (s.l4 + n)
  exact (htyped.rebuilt.sealIp hu).storeChecksum ht

theorem udpReply_rebuilt {payload : List Byte} {s t : State} (h : udpReply payload s = some t) : s.Rebuilt t := by
  obtain ⟨u, hu, ht⟩ := Option.bind_eq_some_iff.1 h
  have hswapped := (State.Reframed.swapAddresses s).swapFields .udpSport .udpDport
  have hsized := ((hswapped.setFlen (s.l4 + 8 + payload.length)).storeField .udpLen (8 + payload.length)).storeField
    .ipLen (s.l4 - 14 + 8 + payload.length)
  exact (((hsized.storeBytes _ _).rebuilt.sealIp hu).storeField .udpCsum 0).storeChecksum ht

theorem Segment.emitted_rebuilt (g : Segment) (s : State) : s.Rebuilt (g.emitted s) := by
  have h := g.emitted_eq s
  generalize g.emitted s = t at h ⊢
  exact ⟨⟨t.sum, t.phase⟩, t.buf, _, h⟩

/-! ### The builders keep the invariant -/

/-- The ICMP reply is as long as the request, which is in frame (R346). -/
theorem State.Inv.icmpReply {s t : State} (h : s.Inv) {n : Nat} (hn : s.l4 + n ≤ s.flen) (ht : icmpReply n s = some t) :
    t.Inv := by
  obtain ⟨u, hu, ht⟩ := Option.bind_eq_some_iff.1 ht
  have htyped := (((h.swapFields .ethDst .ethSrc).swapFields .ipSrc .ipDst).storeField .icmpType 0).setFlen
    (hn.trans h.frameFits)
  exact (htyped.sealIp hu).storeChecksum ht

/-- The UDP reply has been checked against `BUF_CAP` (R347). -/
theorem State.Inv.udpReply {s t : State} (h : s.Inv) {payload : List Byte}
    (hn : s.l4 + 8 + payload.length ≤ Config.bufCap) (ht : udpReply payload s = some t) : t.Inv := by
  obtain ⟨u, hu, ht⟩ := Option.bind_eq_some_iff.1 ht
  have hswapped := ((h.swapFields .ethDst .ethSrc).swapFields .ipSrc .ipDst).swapFields .udpSport .udpDport
  have hsized := ((hswapped.setFlen hn).storeField .udpLen (8 + payload.length)).storeField .ipLen
    (s.l4 - 14 + 8 + payload.length)
  exact (((hsized.storeBytes hn).sealIp hu).storeField .udpCsum 0).storeChecksum ht

/-! ### The session keeps to its codes (R395) -/

/-- A transition that ends in a code of R117. -/
def Transition.Legal (t : Transition) : Prop := t.state.toNat ≤ 8

theorem Transition.legal_mk {st : BitVec 4} (h : st.toNat ≤ 8) (q : BitVec 2) (sel : Data) :
    Transition.Legal ⟨st, q, sel⟩ := h

theorem Transition.legal_ite {p : Prop} [Decidable p] {a b : Transition} (ha : a.Legal) (hb : b.Legal) :
    (if p then a else b).Legal := by
  split
  · exact ha
  · exact hb

open Transition in
/-- A transition from a code of R117 ends in a code of R117: branch by branch, in the order of R386 to R394. -/
theorem transition_legal {st : BitVec 4} (h : st.toNat ≤ 8) (q : BitVec 2) (cls : BitVec 14) (fresh tw : Bool) :
    (transition st q cls fresh tw).Legal := by
  have stay : Legal ⟨st, q, selNone⟩ := h
  unfold transition
  refine legal_ite (legal_mk ?closed _ _) <| legal_ite (legal_ite (legal_mk ?synSent _ _) stay) <|
    legal_ite (legal_mk ?synAckReceived _ _) <| legal_ite (legal_mk ?established _ _) <|
    legal_ite (legal_ite (legal_mk ?publishing _ _) stay) <| legal_ite (legal_ite (legal_mk ?disconnecting _ _) stay) <|
    legal_ite (legal_ite (legal_mk ?finWait1 _ _) stay) <| legal_ite (legal_mk ?finWait2 _ _) <|
    legal_ite (legal_mk ?timeWait _ _) stay
  all_goals decide

theorem sessionStep_legal {st : BitVec 4} (h : st.toNat ≤ 8) (q : BitVec 2) (cls : BitVec 14) (fresh tw : Bool) :
    (sessionStep st q cls fresh tw).Legal :=
  Transition.legal_ite (Transition.legal_mk (st := ssClosed) (Nat.zero_le 8) q _)
    (Transition.legal_ite (Transition.legal_mk h q _) (transition_legal h q cls fresh tw))

/-! ### The inversion -/

/-- The two commands that write one piece of the buffer and keep `frame_len` (R183, R433). -/
def isStore (i : Instr) : Prop := (∃ idx b, i = .bufWr idx b) ∨ ∃ f : Field, i = f.putInstr

/-- The commands that write a whole frame without a checksum (R344, R345, R430). -/
def isFrameWriter (i : Instr) : Prop := (∃ len, i = .rxPoll len) ∨ i = .bldArpReply ∨ i = .bldArpReq

/-- The commands, besides CLASSIFY and the builders, that use the accumulator (R152 to R155, R326). -/
def isAccumulator (i : Instr) : Prop :=
  i = .ckReset ∨ (∃ off len, i = .ckAcc off len) ∨ (∃ imm, i = .ckAccW16 imm) ∨ i = .ckFinal ∨ i = .isIp ∨ i = .isUdpValid

/-- Everything an instruction can do to a state, by what it writes (R20). The cases that write the frame say that it stays
within `BUF_CAP` (R23, R70), and `step` that the session keeps to the codes of R117. -/
inductive Writes (s : State) : Instr → State → Prop
  /-- The outputs only: the commands that read, the checks, and every fault. -/
  | outputs (i : Instr) (r : Data) (st : Status) : Writes s i { s with rdata := r, status := st }
  | transmit (f : List Byte) (r : Data) : Writes s .tx ({ s with txLog := s.txLog ++ [f] }.done r)
  | setMac (v : Mac) : Writes s .cfgSetMac ({ s with localMac := v }.done 0)
  | setIp (v : Ip4) : Writes s .cfgSetIp ({ s with localIp := v }.done 0)
  | setSn (v : Ip4) : Writes s .cfgSetSn ({ s with subnetMask := v }.done 0)
  | setGw (v : Ip4) : Writes s .cfgSetGw ({ s with gateway := v }.done 0)
  | setDhcp (k : Bool) : Writes s (.cfgSetDhcp k) ({ s with dhcpEn := k }.done 0)
  | accumulate {i : Instr} (hi : isAccumulator i) (c : Acc) (r : Data) : Writes s i ((s.withAcc c).done r)
  | latch {i : Instr} (hi : i ∈ eventCommands) (l : Latch) (r : Data) : Writes s i ((s.setLatch l).done r)
  | classify (c : Acc) (l : Latch) (v : BitVec 14) (r : Data) :
      Writes s .classify ({ (s.withAcc c).setLatch l with cls := v, clsFresh := true }.done r)
  | store {i : Instr} (hi : isStore i) (a : Nat) (bs : List Byte) (hcap : a + bs.length ≤ Config.bufCap) :
      Writes s i ((s.storeBytes a bs).clearCls.done 0)
  | setlen (n : Nat) (hcap : n ≤ Config.bufCap) : Writes s (.bufSetlen n) ((s.setFlen n).clearCls.done 0)
  | frame {i : Instr} (hi : isFrameWriter i) (m : List Host.Cell) (n : BitVec 16) (r : Data)
      (hinv : s.Inv → (s.reframe m n).Inv) : Writes s i ((s.reframe m n).clearCls.done r)
  | build {i : Instr} (hi : isIpBuilder i) (c : Acc) (m : List Host.Cell) (n : BitVec 16) (r : Data)
      (hinv : s.Inv → (s.reframe m n).Inv) :
      Writes s i (((s.withAcc c).reframe m n).clearCls.done r)
  | syn (p : BitVec 16) (c : Acc) (m : List Host.Cell) (n : BitVec 16) (r : Data)
      (hinv : s.Inv → (s.reframe m n).Inv) :
      Writes s .bldTcpSyn (((({ s with localPort := p }.withAcc c).reframe m n).clearCls).done r)
  | req (k : BitVec 2) : Writes s (.req k) ({ s with req := k }.done 1)
  | step (tw : Bool) (st : BitVec 4) (q : BitVec 2) (r : Data) (hst : s.state.toNat ≤ 8 → st.toNat ≤ 8) :
      Writes s (.step tw) ({ s with state := st, req := q, clsFresh := false }.done r)

/-- A command that ends well with nothing else written. -/
theorem Writes.done {s : State} (i : Instr) (r : Data) : Writes s i (s.done r) := .outputs i r .ok

/-- A fault writes the outputs only (R472). -/
theorem Writes.raise {s : State} (i : Instr) (st : Status) : Writes s i (s.raise st) := .outputs i 0 st

/-- The end of a builder that computes a checksum. -/
theorem Writes.endBuild {s : State} {i : Instr} (hi : isIpBuilder i) {o : Option State}
    (ho : ∀ t, o = some t → s.Rebuilt t) (hinv : s.Inv → ∀ t, o = some t → t.Inv) : Writes s i (endBuild s o) := by
  cases o with
  | none => exact .raise i _
  | some t =>
    obtain ⟨c, m, n, rfl⟩ := ho t rfl
    exact .build hi c m n _ fun h => (hinv h _ rfl).of_eq rfl rfl h.stateLegal

/-- The end of a builder that computes no checksum and whose checks have passed. -/
theorem Writes.endFrame {s t : State} {i : Instr} (hi : isFrameWriter i) (h : s.Reframed t) (hinv : s.Inv → t.Inv) :
    Writes s i (Sys2Proof.Machine.endBuild s (some t)) := by
  obtain ⟨m, n, rfl⟩ := h
  exact .frame hi m n _ hinv

/-- A frame that fits is emitted: what the emitter leaves, by what it writes. -/
theorem emitTcp_of_le {g : Segment} {s : State} (hlen : 34 + g.tcpLen ≤ 1522) :
    ∃ c m n r, emitTcp g s = ((s.withAcc c).reframe m n).clearCls.done r ∧ (s.Inv → (s.reframe m n).Inv) := by
  obtain ⟨c, m, n, h⟩ := g.emitted_rebuilt s
  have heq := emitTcp_eq g s hlen
  rw [h] at heq
  refine ⟨c, m, n, _, heq, fun hs => ?_⟩
  have hemit := hs.emitTcp g
  rw [heq] at hemit
  exact hemit.of_eq rfl rfl hs.stateLegal

theorem Writes.emitTcp {s : State} {i : Instr} (hi : isIpBuilder i) (g : Segment) : Writes s i (emitTcp g s) := by
  by_cases hlen : 34 + g.tcpLen ≤ 1522
  · obtain ⟨c, m, n, r, h, hinv⟩ := emitTcp_of_le hlen
    rw [h]
    exact .build hi c m n r hinv
  · rw [emitTcp_of_lt (by omega)]
    exact .raise i _

/-- The segment of `BLD_TCP_SYN` (R352). -/
def State.synSegment (s : State) : Segment where
  flags := 0x02
  sport := s.drawnPort
  dport := s.params.peerPort
  seq := 0
  ack := 0
  opts := mssOption s.params
  payload := []

theorem after_bldTcpSyn (s : State) : after .bldTcpSyn s = emitTcp s.synSegment { s with localPort := s.drawnPort } := rfl

theorem State.synSegment_tcpLen (s : State) : s.synSegment.tcpLen = 24 := by
  simp [State.synSegment, Segment.tcpLen, mssOption]

/-- The SYN always fits, so its port is written only with its frame (R352). -/
theorem writes_bldTcpSyn (s : State) : Writes s .bldTcpSyn (after .bldTcpSyn s) := by
  have hlen : 34 + s.synSegment.tcpLen ≤ 1522 := by rw [s.synSegment_tcpLen]; decide
  obtain ⟨c, m, n, r, h, hinv⟩ := emitTcp_of_le (s := { s with localPort := s.drawnPort }) hlen
  rw [after_bldTcpSyn, h]
  exact .syn s.drawnPort c m n r fun hs => (hinv (hs.of_eq rfl rfl hs.stateLegal)).of_eq rfl rfl hs.stateLegal

/-- Every instruction is a case of `Writes`, shape by shape. -/
theorem execCases_writes : ExecCases (fun i s t => Writes s i t) where
  get f s := by rw [getField_eq]; split <;> [exact .done _ _; exact .raise _ _]
  put f s := by
    rw [putField_eq]
    split
    · exact .raise _ _
    · split
      · have hcap : s.fieldAddr f + (fieldImage f s.wdata.toNat s).length ≤ Config.bufCap := by
          have := s.fieldAddr_le f
          rw [fieldImage_length]; unfold Config.bufCap; omega
        exact .store (.inr ⟨f, rfl⟩) _ _ hcap
      · exact .raise _ _
  wire i f v s _ := .done i _
  length i s t _ ht _ := by
    rcases ht with ⟨v, rfl⟩ | rfl | rfl
    · exact .done i v
    · exact .raise i _
    · exact .raise i _
  read i v s _ _ := .done i v
  event i b s hi _ := by
    obtain ⟨l, hl⟩ := latchIf_state b s
    rw [Answer.reply, hl]; exact .latch hi l _
  mqtt i c body s hi _ := by
    have hb : isIpBuilder i := .inr (.inr (.inr (.inr hi)))
    unfold mqttSegment
    split
    · exact .raise i _
    · exact .emitTcp hb _
  rxPoll len s := by
    simp only [after, exec, execRxPoll]
    split
    · exact .done _ _
    · next f _ =>
      have hcap : min f.length (min len Config.bufCap) ≤ Config.bufCap := by omega
      exact .frame (.inl ⟨len, rfl⟩) _ _ _ fun h => (h.storeBytes (by rw [List.length_take]; omega)).setFlen hcap
  tx s := by
    simp only [after, exec, execTx]
    split
    · exact .raise _ _
    · exact .transmit _ _
  bufRd idx s := by
    simp only [after, exec, execBufRd]
    split
    · exact .raise _ _
    · exact .done _ _
  bufWr idx byte s := by
    simp only [after, exec, execBufWr]
    split
    · exact .raise _ _
    · next hidx => exact .store (.inl ⟨idx, byte, rfl⟩) _ _ (Nat.lt_of_not_le hidx)
  bufSetlen len s := by
    simp only [after, exec, execBufSetlen]
    split
    · exact .raise _ _
    · next hlen => exact .setlen len (Nat.le_of_not_lt hlen)
  cfgSetMac s := .setMac _
  cfgSetIp s := by
    simp only [after, exec, execCfgSetIp]
    split
    · exact .setIp _
    · exact .raise _ _
  cfgSetSn s := by
    simp only [after, exec, execCfgSetSn]
    split
    · exact .setSn _
    · exact .raise _ _
  cfgSetGw s := by
    simp only [after, exec, execCfgSetGw]
    split
    · exact .setGw _
    · exact .raise _ _
  cfgSetDhcp k s := .setDhcp k
  ckReset s := .accumulate (.inl rfl) _ _
  ckAcc off len s := by
    simp only [after, exec, execCkAcc]
    split
    · exact .accumulate (.inr (.inl ⟨off, len, rfl⟩)) _ _
    · exact .raise _ _
  ckAccW16 imm s := .accumulate (.inr (.inr (.inl ⟨imm, rfl⟩))) _ _
  ckFinal s := .accumulate (.inr (.inr (.inr (.inl rfl)))) _ _
  isIp s := by
    obtain ⟨c, hc⟩ := isIp_state s
    show Writes s .isIp (Answer.reply _)
    rw [Answer.reply, hc]; exact .accumulate (.inr (.inr (.inr (.inr (.inl rfl))))) c _
  isUdpValid s := by
    obtain ⟨c, hc⟩ := isUdpValid_state s
    show Writes s .isUdpValid (Answer.reply _)
    rw [Answer.reply, hc]; exact .accumulate (.inr (.inr (.inr (.inr (.inr rfl))))) c _
  classify s := by
    obtain ⟨c, l, h⟩ := classifyBits_state s
    simp only [after, exec, execClassify, h]
    exact .classify c l _ _
  bldArpReply s := by
    simp only [after, exec, execBldArpReply]
    split
    · exact .raise _ _
    · exact .endFrame (.inr (.inl rfl))
        ((((((((State.Reframed.refl s).storeField _ _).storeField _ _).storeField _ _).storeField _ _).storeField _ _
          ).storeField _ _).storeField _ _ |>.setFlen 42)
        (fun h => (((((((h.storeField _ _).storeField _ _).storeField _ _).storeField _ _).storeField _ _).storeField _ _
          ).storeField _ _).setFlen (by decide))
  bldArpReq s := by
    simp only [after, exec, execBldArpReq]
    split
    · next ip _ =>
      have hcap : 0 + (arpRequestFrame s.localMac s.localIp ip).length ≤ Config.bufCap := by
        rw [arpRequestFrame_length]; decide
      exact .endFrame (.inr (.inr rfl)) (((State.Reframed.refl s).storeBytes _ _).setFlen 42)
        (fun h => (h.storeBytes hcap).setFlen (by decide))
    · exact .raise _ _
  bldIcmpReply s := by
    simp only [after, exec, execBldIcmpReply]
    split
    · exact .raise _ _
    · split
      · split
        · exact .raise _ _
        · next hn =>
          exact .endBuild (.inl rfl) (fun _ => icmpReply_rebuilt) (fun h _ => h.icmpReply (by omega))
      · exact .raise _ _
  bldUdpReply s0len s := by
    simp only [after, exec, execBldUdpReply]
    split
    · exact .raise _ _
    · split
      · exact .raise _ _
      · next hcap =>
        exact .endBuild (.inr (.inl ⟨s0len, rfl⟩)) (fun _ => udpReply_rebuilt)
          (fun h _ => h.udpReply (by rw [streamBytes_length]; omega))
  bldTcpSyn := writes_bldTcpSyn
  bldTcpAck s := .emitTcp (.inr (.inr (.inr (.inl rfl)))) _
  req k s := by
    simp only [after, exec, execReq]
    split
    · exact .raise _ _
    · split
      · exact .req k
      · exact .done _ _
  step tw s := by
    simp only [after, exec, execStep]
    split
    · exact .raise _ _
    · exact .step tw _ _ _ fun h => sessionStep_legal h _ _ _ _
  getLocL4 s := by
    simp only [after, exec, execGetLocL4]
    split
    · exact .done _ _
    · exact .raise _ _
  getLocPl s := by
    simp only [after, exec, execGetLocPl]
    split
    · exact .done _ _
    · exact .raise _ _

theorem exec_writes {i : Instr} {s t : State} (h : exec i s = .next t) : Writes s i t := execCases_writes.exec h

/-! ### Register by register: the one case that writes it, and in every other case it is kept -/

section
variable {i : Instr} {s t : State}

theorem Writes.state_eq (w : Writes s i t) (h : ∀ tw, i ≠ .step tw) : t.state = s.state := by
  cases w with
  | step tw => exact absurd rfl (h tw)
  | _ => rfl

theorem Writes.req_eq (w : Writes s i t) (hs : ∀ tw, i ≠ .step tw) (hr : ∀ k, i ≠ .req k) : t.req = s.req := by
  cases w with
  | step tw => exact absurd rfl (hs tw)
  | req k => exact absurd rfl (hr k)
  | _ => rfl

theorem Writes.localPort_eq (w : Writes s i t) (h : i ≠ .bldTcpSyn) : t.localPort = s.localPort := by
  cases w with
  | syn => exact absurd rfl h
  | _ => rfl

/-- The five registers of the event latch are written together (R38). -/
theorem Writes.latched_eq (w : Writes s i t) (h : i ∉ Instr.classify :: eventCommands) : t.latched = s.latched := by
  cases w with
  | latch hi => exact absurd (List.mem_cons_of_mem _ hi) h
  | classify => exact absurd List.mem_cons_self h
  | _ => rfl

theorem Writes.localMac_eq (w : Writes s i t) (h : i ≠ .cfgSetMac) : t.localMac = s.localMac := by
  cases w with
  | setMac => exact absurd rfl h
  | _ => rfl

theorem Writes.localIp_eq (w : Writes s i t) (h : i ≠ .cfgSetIp) : t.localIp = s.localIp := by
  cases w with
  | setIp => exact absurd rfl h
  | _ => rfl

theorem Writes.subnetMask_eq (w : Writes s i t) (h : i ≠ .cfgSetSn) : t.subnetMask = s.subnetMask := by
  cases w with
  | setSn => exact absurd rfl h
  | _ => rfl

theorem Writes.gateway_eq (w : Writes s i t) (h : i ≠ .cfgSetGw) : t.gateway = s.gateway := by
  cases w with
  | setGw => exact absurd rfl h
  | _ => rfl

theorem Writes.dhcpEn_eq (w : Writes s i t) (h : ∀ k, i ≠ .cfgSetDhcp k) : t.dhcpEn = s.dhcpEn := by
  cases w with
  | setDhcp k => exact absurd rfl (h k)
  | _ => rfl

theorem Writes.txLog_eq (w : Writes s i t) (h : i ≠ .tx) : t.txLog = s.txLog := by
  cases w with
  | transmit => exact absurd rfl h
  | _ => rfl

/-- No instruction writes the parameters, the inputs, the stream of stimuli, the results or the count of resets. -/
theorem Writes.ports_eq (w : Writes s i t) :
    t.params = s.params ∧ t.wdata = s.wdata ∧ t.s0 = s.s0 ∧ t.s1 = s.s1 ∧ t.env = s.env ∧ t.pending = s.pending ∧
    t.results = s.results ∧ t.resetCount = s.resetCount := by
  cases w <;> exact ⟨rfl, rfl, rfl, rfl, rfl, rfl, rfl, rfl⟩

theorem isIpBuilder_bldTcpSyn : isIpBuilder .bldTcpSyn := .inr (.inr (.inl rfl))

theorem Writes.acc_eq (w : Writes s i t) (ha : ¬ isAccumulator i) (hc : i ≠ .classify) (hb : ¬ isIpBuilder i) :
    t.acc = s.acc := by
  cases w with
  | accumulate hi => exact absurd hi ha
  | classify => exact absurd rfl hc
  | build hi => exact absurd hi hb
  | syn => exact absurd isIpBuilder_bldTcpSyn hb
  | _ => rfl

/-- The commands that may write a byte of the buffer (R71). -/
def writesBuffer (i : Instr) : Prop := (∃ len, i = .rxPoll len) ∨ isStore i ∨ isBuilder i

/-- The commands that may write `frame_len` (R78). -/
def writesFrameLen (i : Instr) : Prop := (∃ len, i = .rxPoll len) ∨ (∃ len, i = .bufSetlen len) ∨ isBuilder i

theorem isBuilder_of_isIpBuilder (h : isIpBuilder i) : isBuilder i := .inr (.inr h)

theorem isFrameWriter.rxPoll_or_isBuilder (h : isFrameWriter i) : (∃ len, i = .rxPoll len) ∨ isBuilder i := by
  rcases h with h | h | h
  · exact .inl h
  · exact .inr (.inl h)
  · exact .inr (.inr (.inl h))

theorem isFrameWriter.writesBuffer (h : isFrameWriter i) : writesBuffer i := h.rxPoll_or_isBuilder.imp_right .inr

theorem isFrameWriter.writesFrameLen (h : isFrameWriter i) : writesFrameLen i := h.rxPoll_or_isBuilder.imp_right .inr

theorem Writes.buf_eq (w : Writes s i t) (h : ¬ writesBuffer i) : t.buf = s.buf := by
  cases w with
  | store hi => exact absurd (.inr (.inl hi)) h
  | frame hi => exact absurd hi.writesBuffer h
  | build hi => exact absurd (.inr (.inr (isBuilder_of_isIpBuilder hi))) h
  | syn => exact absurd (.inr (.inr (isBuilder_of_isIpBuilder isIpBuilder_bldTcpSyn))) h
  | _ => rfl

theorem Writes.frameLen_eq (w : Writes s i t) (h : ¬ writesFrameLen i) : t.frameLen = s.frameLen := by
  cases w with
  | setlen n _ => exact absurd (.inr (.inl ⟨n, rfl⟩)) h
  | frame hi => exact absurd hi.writesFrameLen h
  | build hi => exact absurd (.inr (.inr (isBuilder_of_isIpBuilder hi))) h
  | syn => exact absurd (.inr (.inr (isBuilder_of_isIpBuilder isIpBuilder_bldTcpSyn))) h
  | _ => rfl

/-- A command forgets the classification, or it keeps the frame (R25). -/
theorem Writes.forgets_or_keeps_frame (w : Writes s i t) :
    (t.cls = 0 ∧ t.clsFresh = false) ∨ (t.buf = s.buf ∧ t.frameLen = s.frameLen) := by
  cases w with
  | store | setlen | frame | build | syn => exact .inl ⟨rfl, rfl⟩
  | _ => exact .inr ⟨rfl, rfl⟩

/-- A command other than CLASSIFY keeps `cls` and `cls_fresh` or sets them to 0 (R25). -/
theorem Writes.cls_kept_or_zero (w : Writes s i t) (h : i ≠ .classify) :
    (t.cls = s.cls ∨ t.cls = 0) ∧ (t.clsFresh = s.clsFresh ∨ t.clsFresh = false) := by
  cases w with
  | store | setlen | frame | build | syn => exact ⟨.inr rfl, .inr rfl⟩
  | step => exact ⟨.inl rfl, .inr rfl⟩
  | classify => exact absurd rfl h
  | _ => exact ⟨.inl rfl, .inl rfl⟩

/-- A command that cannot write the frame keeps `cls`, and `cls_fresh` unless it is STEP (R25, R385). -/
theorem Writes.cls_eq (w : Writes s i t) (hb : ¬ writesBuffer i) (hf : ¬ writesFrameLen i) (hc : i ≠ .classify) :
    t.cls = s.cls ∧ ((∀ tw, i ≠ .step tw) → t.clsFresh = s.clsFresh) := by
  cases w with
  | store hi => exact absurd (.inr (.inl hi)) hb
  | setlen n _ => exact absurd (.inr (.inl ⟨n, rfl⟩)) hf
  | frame hi => exact absurd hi.writesBuffer hb
  | build hi => exact absurd (.inr (.inr (isBuilder_of_isIpBuilder hi))) hb
  | syn => exact absurd (.inr (.inr (isBuilder_of_isIpBuilder isIpBuilder_bldTcpSyn))) hb
  | step tw => exact ⟨rfl, fun h => absurd rfl (h tw)⟩
  | classify => exact absurd rfl hc
  | _ => exact ⟨rfl, fun _ => rfl⟩

/-- A byte is what the list of cells and the count of resets say. -/
theorem State.byteAt_congr (hb : t.buf = s.buf) (hr : t.resetCount = s.resetCount) (a : Nat) : t.byteAt a = s.byteAt a := by
  rw [State.byteAt, State.byteAt, hb, hr]

theorem Writes.byteAt_eq (w : Writes s i t) (hb : t.buf = s.buf) (a : Nat) : t.byteAt a = s.byteAt a := by
  obtain ⟨-, -, -, -, -, -, -, hr⟩ := w.ports_eq
  exact State.byteAt_congr hb hr a

end

/-- Settles O14: of the cases of `Writes`, `step` and `req` are the ones that write `state` and `req`, `syn` the one that
writes `local_port`, `latch` and `classify` the ones that write the event latch. -/
theorem sessionRegisterWriters : Obligations.SessionRegisterWriters := by
  intro i s t he
  have w := exec_writes he
  refine ⟨fun hs => ⟨w.state_eq hs, w.req_eq hs⟩, w.localPort_eq, fun hl => ?_⟩
  have hlatch := w.latched_eq hl
  simpa only [State.latched, Latch.mk.injEq] using hlatch

/-- Settles O15: each CFG_SET command and TX has a case of `Writes` of its own. -/
theorem configRegisterWriters : Obligations.ConfigRegisterWriters := by
  intro i s t he
  have w := exec_writes he
  exact ⟨w.localMac_eq, w.localIp_eq, w.subnetMask_eq, w.gateway_eq, w.dhcpEn_eq, w.txLog_eq, w.ports_eq⟩

/-- Settles O16: the accumulator is written in the cases `accumulate`, `classify`, `build` and `syn` of `Writes`. -/
theorem accumulatorWriters : Obligations.AccumulatorWriters := by
  intro i s t he hreset hacc hw16 hfinal hip hudp hclassify hbuild
  have hnot : ¬ isAccumulator i := by
    rintro (rfl | ⟨off, len, rfl⟩ | ⟨imm, rfl⟩ | rfl | rfl | rfl)
    · exact hreset rfl
    · exact hacc off len rfl
    · exact hw16 imm rfl
    · exact hfinal rfl
    · exact hip rfl
    · exact hudp rfl
  have h := (exec_writes he).acc_eq hnot hclassify hbuild
  simpa only [State.acc, Acc.mk.injEq] using h

theorem not_writesBuffer {i : Instr} (hrx : ∀ len, i ≠ .rxPoll len) (hwr : ∀ idx b, i ≠ .bufWr idx b)
    (hput : ∀ f : Field, i ≠ f.putInstr) (hbuild : ¬ isBuilder i) : ¬ writesBuffer i := by
  rintro (⟨len, rfl⟩ | (⟨idx, b, rfl⟩ | ⟨f, rfl⟩) | h)
  · exact hrx len rfl
  · exact hwr idx b rfl
  · exact hput f rfl
  · exact hbuild h

theorem not_writesFrameLen {i : Instr} (hrx : ∀ len, i ≠ .rxPoll len) (hset : ∀ len, i ≠ .bufSetlen len)
    (hbuild : ¬ isBuilder i) : ¬ writesFrameLen i := by
  rintro (⟨len, rfl⟩ | ⟨len, rfl⟩ | h)
  · exact hrx len rfl
  · exact hset len rfl
  · exact hbuild h

/-- Settles O17: a case of `Writes` that touches the frame forgets the classification, so a change of a byte or of
`frame_len` shows that it was forgotten. -/
theorem bufferWriters : Obligations.BufferWriters := by
  intro i s t he
  have w := exec_writes he
  refine ⟨fun hrx hwr hput hbuild => w.byteAt_eq (w.buf_eq (not_writesBuffer hrx hwr hput hbuild)),
    fun hrx hset hbuild => w.frameLen_eq (not_writesFrameLen hrx hset hbuild), fun hchange => ?_, w.cls_kept_or_zero,
    fun hrx hwr hset hput hbuild =>
      w.cls_eq (not_writesBuffer hrx hwr hput hbuild) (not_writesFrameLen hrx hset hbuild)⟩
  rcases w.forgets_or_keeps_frame with hforgets | ⟨hbuf, hlen⟩
  · exact hforgets
  · rcases hchange with hchange | ⟨a, hchange⟩
    · exact absurd hlen hchange
    · exact absurd (w.byteAt_eq hbuf a) hchange

/-! ### The invariant of R453 -/

/-- Every instruction keeps the invariant: only the cases that write the frame or `state` have anything to show. -/
theorem Writes.inv {i : Instr} {s t : State} (w : Writes s i t) (h : s.Inv) : t.Inv := by
  cases w with
  | store _ a bs hcap => exact (h.storeBytes hcap).clearCls.done 0
  | setlen n hcap => exact (h.setFlen hcap).clearCls.done 0
  | frame _ m n r hinv => exact (hinv h).clearCls.done r
  | build _ c m n r hinv => exact (hinv h).of_eq rfl rfl h.stateLegal
  | syn p c m n r hinv => exact (hinv h).of_eq rfl rfl h.stateLegal
  | step tw st q r hst => exact h.of_eq rfl rfl (hst h.stateLegal)
  | _ => exact h.of_eq rfl rfl h.stateLegal

/-- The state right after any reset meets the invariant (R50, R52). -/
theorem State.inv_applyReset (s : State) : s.applyReset.Inv :=
  ⟨List.Pairwise.nil, nofun, Nat.zero_le _, Nat.zero_le _⟩

/-- What every instruction, every update of the port and reset keep, a step keeps (R18, R120, R500). -/
theorem step_preserves {P : State → Prop} (htake : ∀ s l, P s → P (s.withPending l)) (hpresent : ∀ s c, P s → P (s.present c))
    (hobserve : ∀ s, P s → P s.observe) (hillegal : ∀ s, P s → P (s.raise .errOpcode)) (hreset : ∀ s, P s → P s.applyReset)
    (hexec : ∀ i s t, P s → exec i s = .next t → P t) {s t : State} (h : P s) (hstep : step s = .next t) : P t := by
  unfold step takeNext at hstep
  split at hstep
  · cases hstep; exact h
  · next x rest _ =>
    have hs := htake s rest h
    cases x with
    | command c =>
      simp only [takeStimulus, takeCommand] at hstep
      split at hstep
      · next i _ =>
        rw [exec_eq_after] at hstep
        cases hstep
        exact hobserve _ (hexec i _ _ (hpresent _ c hs) (exec_eq_after i _))
      · cases hstep; exact hobserve _ (hillegal _ (hpresent _ c hs))
    | wire f v =>
      simp only [takeStimulus, takeWire] at hstep
      split at hstep
      · next i _ => exact hexec i _ t hs hstep
      · cases hstep; exact hs
    | reset => cases hstep; exact hreset _ hs

/-- Settles O9: the parts of a step keep the invariant, `exec` by the cases of `Writes`. -/
theorem stepKeepsInv : Obligations.StepKeepsInv := fun _ _ =>
  step_preserves (fun _ l h => h.withPending l) (fun _ c h => h.present c) (fun _ h => h.observe) (fun _ h => h.raise _)
    (fun s _ => s.inv_applyReset) (fun _ _ _ h he => (exec_writes he).inv h)

/-- Settles O11: the buffer is empty, `frame_len` is 0 and the session is Closed without a request (R50). -/
theorem resetMeetsInvariants : Obligations.ResetMeetsInvariants :=
  ⟨⟨Memory.wf_reset, nofun, Nat.zero_le _, Nat.zero_le _⟩, ⟨fun h => absurd rfl h, by decide, Nat.zero_le _⟩⟩

/-- Settles O7: the state after reset is the record of R50. -/
theorem resetValues : Obligations.ResetValues :=
  ⟨rfl, rfl, rfl, rfl, rfl, rfl, rfl, rfl, rfl, rfl, rfl, rfl, rfl⟩

/-- A step with the reset input next applies it (R500). -/
theorem step_of_reset {s : State} {rest : List Stimulus} (h : s.pending = .reset :: rest) :
    step s = .next (s.withPending rest).applyReset := by
  rw [step, takeNext, h]; rfl

/-- Settles O6: `State.applyReset` gives every register its reset value and keeps the observation. -/
theorem stepResets : Obligations.StepResets := fun _ _ h =>
  ⟨_, step_of_reset h, rfl, rfl, rfl, rfl, rfl, rfl, rfl, rfl, rfl, rfl, rfl, rfl, rfl, rfl, rfl, rfl, rfl⟩

end Sys2Proof.Machine
end

section
/-! PROOF. The outputs are not state (R26): every operation gives the same whatever the last command drove, so every command
does. -/

namespace Sys2Proof.Machine

/-- The state with other values on the outputs. -/
def State.withOutputs (r : Data) (st : Status) (s : State) : State := { s with rdata := r, status := st }

section
variable (r : Data) (st : Status)

/-! ### The updates of the state -/

@[simp] theorem State.done_withOutputs (v : Data) (s : State) : (s.withOutputs r st).done v = s.done v := rfl
@[simp] theorem State.raise_withOutputs (e : Status) (s : State) : (s.withOutputs r st).raise e = s.raise e := rfl
@[simp] theorem State.flen_withOutputs (s : State) : (s.withOutputs r st).flen = s.flen := rfl
@[simp] theorem State.l4_withOutputs (s : State) : (s.withOutputs r st).l4 = s.l4 := rfl
@[simp] theorem State.s0_withOutputs (s : State) : (s.withOutputs r st).s0 = s.s0 := rfl
@[simp] theorem State.ipPayloadLen_withOutputs (s : State) : (s.withOutputs r st).ipPayloadLen = s.ipPayloadLen := rfl
@[simp] theorem State.params_withOutputs (s : State) : (s.withOutputs r st).params = s.params := rfl
@[simp] theorem State.localIp_withOutputs (s : State) : (s.withOutputs r st).localIp = s.localIp := rfl
@[simp] theorem State.localMac_withOutputs (s : State) : (s.withOutputs r st).localMac = s.localMac := rfl
@[simp] theorem State.fieldValue_withOutputs (f : Field) (s : State) :
    (s.withOutputs r st).fieldValue f = s.fieldValue f := rfl
@[simp] theorem State.setFlen_withOutputs (n : Nat) (s : State) :
    (s.withOutputs r st).setFlen n = (s.setFlen n).withOutputs r st := rfl
@[simp] theorem State.storeBytes_withOutputs (a : Nat) (bs : List Byte) (s : State) :
    (s.withOutputs r st).storeBytes a bs = (s.storeBytes a bs).withOutputs r st := rfl
@[simp] theorem State.withAcc_withOutputs (c : Acc) (s : State) :
    (s.withOutputs r st).withAcc c = (s.withAcc c).withOutputs r st := rfl

@[simp] theorem State.storeField_withOutputs (f : Field) (v : Nat) (s : State) :
    (s.withOutputs r st).storeField f v = (s.storeField f v).withOutputs r st := by
  rw [State.storeField_eq, State.storeField_eq]; rfl

@[simp] theorem State.swapFields_withOutputs (f g : Field) (s : State) :
    (s.withOutputs r st).swapFields f g = (s.swapFields f g).withOutputs r st := rfl

theorem putField_withOutputs (f : Field) (s : State) : putField f (s.withOutputs r st) = putField f s := by
  rw [putField_eq, putField_eq]; rfl

theorem ckIp_withOutputs (s : State) : ckIp (s.withOutputs r st) = ckIp s := rfl
theorem ckUdp_withOutputs (s : State) : ckUdp (s.withOutputs r st) = ckUdp s := rfl
theorem ckTcp_withOutputs (s : State) : ckTcp (s.withOutputs r st) = ckTcp s := rfl
theorem ckIcmpGen_withOutputs (s : State) (n : Nat) : ckIcmpGen (s.withOutputs r st) n = ckIcmpGen s n := rfl

/-! ### The builders -/

theorem storeChecksum_withOutputs (f : Field) (o : CkOut) (s : State) :
    storeChecksum f o (s.withOutputs r st) = (storeChecksum f o s).map (State.withOutputs r st) := by
  obtain ⟨c, v⟩ := o
  cases v with
  | none => rfl
  | some v => rw [storeChecksum_some, storeChecksum_some]; simp

theorem sealIp_withOutputs (s : State) : sealIp (s.withOutputs r st) = (sealIp s).map (State.withOutputs r st) := by
  unfold sealIp
  rw [State.storeField_withOutputs, storeChecksum_withOutputs, ckIp_withOutputs]

theorem endBuild_withOutputs (s : State) (o : Option State) :
    endBuild (s.withOutputs r st) (o.map (State.withOutputs r st)) = endBuild s o := by
  cases o <;> rfl

theorem endBuild_some_withOutputs (s t : State) :
    endBuild (s.withOutputs r st) (some (t.withOutputs r st)) = endBuild s (some t) := rfl

/-- A second checksum after a first one. -/
theorem bind_withOutputs {f : State → Option State} (o : Option State)
    (hf : ∀ t, f (t.withOutputs r st) = (f t).map (State.withOutputs r st)) :
    (o.map (State.withOutputs r st)).bind f = (o.bind f).map (State.withOutputs r st) := by
  cases o with
  | none => rfl
  | some t => exact hf t

theorem icmpReply_withOutputs (n : Nat) (s : State) :
    icmpReply n (s.withOutputs r st) = (icmpReply n s).map (State.withOutputs r st) := by
  simp only [icmpReply, State.swapFields_withOutputs, State.storeField_withOutputs, State.setFlen_withOutputs,
    State.l4_withOutputs, sealIp_withOutputs]
  refine bind_withOutputs r st _ fun t => ?_
  rw [storeChecksum_withOutputs, ckIcmpGen_withOutputs]

theorem udpReply_withOutputs (payload : List Byte) (s : State) :
    udpReply payload (s.withOutputs r st) = (udpReply payload s).map (State.withOutputs r st) := by
  have hcsum : ∀ t : State, storeChecksum .udpCsum (ckUdp ((t.withOutputs r st).storeField .udpCsum 0))
      ((t.withOutputs r st).storeField .udpCsum 0) =
      (storeChecksum .udpCsum (ckUdp (t.storeField .udpCsum 0)) (t.storeField .udpCsum 0)).map (State.withOutputs r st) :=
    fun t => by simp only [State.storeField_withOutputs, storeChecksum_withOutputs, ckUdp_withOutputs]
  simp only [udpReply, State.swapFields_withOutputs, State.storeField_withOutputs, State.setFlen_withOutputs,
    State.storeBytes_withOutputs, State.l4_withOutputs, sealIp_withOutputs]
  exact bind_withOutputs r st _ hcsum

theorem Segment.laid_withOutputs (g : Segment) (s : State) :
    g.laid (s.withOutputs r st) = (g.laid s).withOutputs r st := by
  simp only [Segment.laid, State.params_withOutputs, State.localMac_withOutputs, State.localIp_withOutputs,
    State.storeBytes_withOutputs, State.setFlen_withOutputs]

theorem emitTcp_withOutputs (g : Segment) (s : State) : emitTcp g (s.withOutputs r st) = emitTcp g s := by
  have hdef : ∀ u, emitTcp g u = if Config.bufCap < 14 + 20 + g.tcpLen then u.raise .errBounds else
      endBuild u ((storeChecksum .ipCsum (ckIp (g.laid u)) (g.laid u)).bind
        (fun t => storeChecksum .tcpCsum (ckTcp t) t)) := fun _ => rfl
  have hcsum : ∀ t : State, storeChecksum .tcpCsum (ckTcp (t.withOutputs r st)) (t.withOutputs r st) =
      (storeChecksum .tcpCsum (ckTcp t) t).map (State.withOutputs r st) := fun t => by
    rw [storeChecksum_withOutputs, ckTcp_withOutputs]
  rw [hdef, hdef, g.laid_withOutputs, storeChecksum_withOutputs, ckIp_withOutputs, bind_withOutputs r st _ hcsum,
    endBuild_withOutputs, State.raise_withOutputs]

theorem mqttSegment_withOutputs (c : Byte) (body : List Byte) (s : State) :
    mqttSegment c body (s.withOutputs r st) = mqttSegment c body s := by
  unfold mqttSegment
  split
  · rfl
  · exact emitTcp_withOutputs r st _ s

end

/-! ### The predicates -/

/-- The answer with other values on the outputs. -/
def Answer.withOutputs (r : Data) (st : Status) (a : Answer) : Answer := ⟨a.state.withOutputs r st, a.holds⟩

/-- A predicate that reads no output and leaves the outputs. -/
def IgnoresOutputs (p : State → Answer) : Prop := ∀ r st s, p (s.withOutputs r st) = (p s).withOutputs r st

theorem latchIf_withOutputs (b : Bool) (r : Data) (st : Status) (s : State) :
    latchIf b (s.withOutputs r st) = (latchIf b s).withOutputs r st := by
  have hlatch : (s.withOutputs r st).latchOf = s.latchOf := rfl
  unfold latchIf
  rw [hlatch]
  cases b with
  | false => rfl
  | true => cases s.latchOf <;> rfl

theorem isIp_ignoresOutputs : IgnoresOutputs isIp := by
  intro r st s
  have htest : (s.withOutputs r st).fieldIs .ethType 0x0800 = s.fieldIs .ethType 0x0800 := rfl
  unfold isIp
  rw [htest]
  split <;> rfl

theorem isUdpValid_ignoresOutputs : IgnoresOutputs isUdpValid := by
  intro r st s
  have htest : (s.withOutputs r st).fieldIs .ipProto 17 = s.fieldIs .ipProto 17 := rfl
  unfold isUdpValid
  rw [htest]
  split <;> rfl

theorem eventPredicates_ignoreOutputs : ∀ p ∈ eventPredicates, IgnoresOutputs p := by
  simp only [eventPredicates, List.forall_mem_cons]
  exact ⟨fun _ _ _ => latchIf_withOutputs _ _ _ _, fun _ _ _ => latchIf_withOutputs _ _ _ _,
    fun _ _ _ => latchIf_withOutputs _ _ _ _, fun _ _ _ => latchIf_withOutputs _ _ _ _,
    fun _ _ _ => latchIf_withOutputs _ _ _ _, fun _ _ _ => latchIf_withOutputs _ _ _ _,
    fun _ _ _ => latchIf_withOutputs _ _ _ _, fun _ _ _ => latchIf_withOutputs _ _ _ _, nofun⟩

theorem IgnoresOutputs.gated {p : State → Answer} (h : IgnoresOutputs p) (g : Bool) : IgnoresOutputs (gated g p) := by
  intro r st s
  cases g with
  | false => rfl
  | true => exact h r st s

theorem askAll_withOutputs (g : Bool) (ps : List (State → Answer)) (h : ∀ p ∈ ps, IgnoresOutputs p) (r : Data) (st : Status)
    (s : State) : askAll g ps (s.withOutputs r st) = ((askAll g ps s).1.withOutputs r st, (askAll g ps s).2) := by
  induction ps generalizing s with
  | nil => rfl
  | cons p ps ih =>
    have hp := (h p List.mem_cons_self).gated g r st s
    have hrest := ih (fun q hq => h q (List.mem_cons_of_mem _ hq)) (Machine.gated g p s).state
    simp only [askAll, hp, Answer.withOutputs, hrest]

theorem classifyBits_withOutputs (r : Data) (st : Status) (s : State) :
    classifyBits (s.withOutputs r st) = ((classifyBits s).1.withOutputs r st, (classifyBits s).2) := by
  have harp : IgnoresOutputs isArpReq := fun _ _ _ => rfl
  have huni : IgnoresOutputs isIpUnicast := fun _ _ _ => rfl
  have hping : IgnoresOutputs isPingReq := fun _ _ _ => rfl
  have htcp : IgnoresOutputs isTcp := fun _ _ _ => rfl
  simp only [classifyBits, harp r st, isIp_ignoresOutputs r st, huni.gated _ r st, hping.gated _ r st,
    isUdpValid_ignoresOutputs.gated _ r st, htcp.gated _ r st, Answer.withOutputs,
    askAll_withOutputs _ _ eventPredicates_ignoreOutputs]

/-! ### Every instruction -/

theorem after_getInstr (f : Field) (s : State) : after f.getInstr s = getField f s := by rw [after, exec_getInstr]

theorem after_putInstr (f : Field) (s : State) : after f.putInstr s = putField f s := by rw [after, exec_putInstr]

theorem execCases_ignoreOutputs : ExecCases (fun i s t => ∀ r st, after i (s.withOutputs r st) = t) where
  get f s r st := by rw [after_getInstr]; rfl
  put f s r st := by rw [after_putInstr, putField_withOutputs]
  wire i f v s h r st := by rw [h]; rfl
  length i s t hi _ ht r st := by rw [ht]; rcases hi with rfl | rfl | rfl <;> rfl
  read i v s hi h r st := by
    rw [← h]
    simp only [readCommands, List.mem_cons, List.not_mem_nil, or_false] at hi
    rcases hi with rfl | rfl | rfl | rfl | rfl | rfl | rfl | rfl | rfl | rfl | rfl | rfl | rfl <;> rfl
  event i b s hi h r st := by
    have hreply : ∀ b, (latchIf b (s.withOutputs r st)).reply = (latchIf b s).reply := fun b => by
      rw [latchIf_withOutputs]; rfl
    rw [← h]
    simp only [eventCommands, List.mem_cons, List.not_mem_nil, or_false] at hi
    rcases hi with rfl | rfl | rfl | rfl | rfl | rfl | rfl | rfl <;> exact hreply _
  mqtt i c body s hi h r st := by
    rw [← h]
    rcases hi with rfl | ⟨n, m, rfl⟩ | ⟨n, rfl⟩ | ⟨n, rfl⟩ | rfl | rfl <;> exact mqttSegment_withOutputs r st _ _ s
  rxPoll _ _ _ _ := rfl
  tx _ _ _ := rfl
  bufRd _ _ _ _ := rfl
  bufWr _ _ _ _ _ := rfl
  bufSetlen _ _ _ _ := rfl
  cfgSetMac _ _ _ := rfl
  cfgSetIp _ _ _ := rfl
  cfgSetSn _ _ _ := rfl
  cfgSetGw _ _ _ := rfl
  cfgSetDhcp _ _ _ _ := rfl
  ckReset _ _ _ := rfl
  ckAcc _ _ _ _ _ := rfl
  ckAccW16 _ _ _ _ := rfl
  ckFinal _ _ _ := rfl
  isIp s r st := by
    show (Machine.isIp (s.withOutputs r st)).reply = _
    rw [isIp_ignoresOutputs]; rfl
  isUdpValid s r st := by
    show (Machine.isUdpValid (s.withOutputs r st)).reply = _
    rw [isUdpValid_ignoresOutputs]; rfl
  classify s r st := by
    simp only [after, exec, execClassify, classifyBits_withOutputs]; rfl
  bldArpReply s r st := by
    simp only [after, exec, execBldArpReply, State.flen_withOutputs, State.localMac_withOutputs, State.raise_withOutputs,
      State.fieldValue_withOutputs, State.storeField_withOutputs, State.setFlen_withOutputs, endBuild_some_withOutputs]
  bldArpReq _ _ _ := rfl
  bldIcmpReply s r st := by
    simp only [after, exec, execBldIcmpReply, State.flen_withOutputs, State.l4_withOutputs, State.ipPayloadLen_withOutputs,
      State.raise_withOutputs, icmpReply_withOutputs, endBuild_withOutputs]
  bldUdpReply n s r st := by
    simp only [after, exec, execBldUdpReply, State.flen_withOutputs, State.l4_withOutputs, State.s0_withOutputs,
      State.raise_withOutputs, udpReply_withOutputs, endBuild_withOutputs]
  bldTcpSyn s r st := emitTcp_withOutputs r st s.synSegment { s with localPort := s.drawnPort }
  bldTcpAck s r st := emitTcp_withOutputs r st _ s
  req _ _ _ _ := rfl
  step _ _ _ _ := rfl
  getLocL4 _ _ _ := rfl
  getLocPl _ _ _ := rfl

/-- Settles O13: what `exec` answers is what it answers with other values on the outputs. -/
theorem outputsAreNotState : Obligations.OutputsAreNotState := by
  intro i s r st
  rw [exec_eq_after, exec_eq_after]
  exact congrArg _ (execCases_ignoreOutputs.all i s r st)

/-! ### The configuration registers read back (R45) -/

/-- A 32-bit value widens to the write data it was taken from. -/
theorem State.setWidth_wdata32 {s : State} {v : Ip4} (h : s.wdata32 = some v) : v.setWidth 48 = s.wdata := by
  unfold State.wdata32 at h
  split at h
  · cases h
  · next hlt =>
    cases h
    apply BitVec.eq_of_toNat_eq
    simp only [BitVec.toNat_setWidth, BitVec.toNat_ofNat]
    omega

/-- A CFG_SET command of a 32-bit register that ended well has written a value that widens to the write data (R443, R445,
R447). -/
theorem wdata32_of_ok {s t : State} {write : Ip4 → State}
    (h : (match s.wdata32 with | some v => (write v).done 0 | none => s.raise .errArg) = t) (hok : t.status = .ok) :
    ∃ v, t = (write v).done 0 ∧ v.setWidth 48 = s.wdata := by
  split at h
  · next v hv => exact ⟨v, h.symm, State.setWidth_wdata32 hv⟩
  · subst h; cases hok

/-- Settles O58: each CFG_SET command that ended well has put its data in the register that its CFG_GET returns. -/
theorem configReadsBack : Obligations.ConfigReadsBack := by
  refine ⟨fun s t u set get hpair hset hok hget => ?_, fun s t u k hset hget => ?_⟩
  · simp only [List.mem_cons, List.not_mem_nil, or_false, Prod.mk.injEq] at hpair
    rcases hpair with ⟨rfl, rfl⟩ | ⟨rfl, rfl⟩ | ⟨rfl, rfl⟩ | ⟨rfl, rfl⟩
    · cases hset; cases hget; exact ⟨rfl, rfl⟩
    · obtain ⟨v, rfl, hv⟩ := wdata32_of_ok (write := fun v => { s with localIp := v }) (Host.Outcome.next.inj hset) hok
      cases hget; exact ⟨hv, rfl⟩
    · obtain ⟨v, rfl, hv⟩ := wdata32_of_ok (write := fun v => { s with subnetMask := v }) (Host.Outcome.next.inj hset) hok
      cases hget; exact ⟨hv, rfl⟩
    · obtain ⟨v, rfl, hv⟩ := wdata32_of_ok (write := fun v => { s with gateway := v }) (Host.Outcome.next.inj hset) hok
      cases hget; exact ⟨hv, rfl⟩
  · cases hset; cases hget; cases k <;> exact ⟨rfl, rfl, rfl⟩

end Sys2Proof.Machine
end

section
/-! PROOF. What a classifier reads (R73, R300): two states that hold the same frame and the same `local_ip` give every field,
every region and every verdict the same value, whatever else they hold. -/

namespace Sys2Proof.Machine

/-- Two states that hold the same frame, with the same length, and the same `local_ip`. -/
structure SameFrame (s t : State) : Prop where
  frameLen : s.frameLen = t.frameLen
  localIp : s.localIp = t.localIp
  bytes : ∀ a, a < s.flen → s.byteAt a = t.byteAt a

namespace SameFrame

variable {s t : State}

/-! ### Regions and fields -/

theorem flen (h : SameFrame s t) : s.flen = t.flen := congrArg BitVec.toNat h.frameLen

theorem l4 (h : SameFrame s t) (hl : 15 ≤ s.flen) : s.l4 = t.l4 := State.l4_congr (h.bytes 14 (by omega))

theorem pl (h : SameFrame s t) (hp : s.l4 + 13 ≤ s.flen) : s.pl = t.pl :=
  have := s.l4_ge
  State.pl_congr (h.bytes 14 (by omega)) (h.bytes (s.l4 + 12) (by omega))

theorem readRegion (h : SameFrame s t) (a n : Nat) : s.readRegion a n = t.readRegion a n := by
  by_cases hle : a + n ≤ s.flen
  · rw [State.readRegion_of_le hle, State.readRegion_of_le (h.flen ▸ hle),
      State.bytesAt_congr fun k hk => h.bytes (a + k) (by omega)]
  · have hlt : t.flen < a + n := by have := h.flen; omega
    rw [State.readRegion_of_lt (by omega), State.readRegion_of_lt hlt]

/-- A base resolves in both states or in neither: the bytes that locate it are themselves in frame (R181). -/
theorem baseInFrame (h : SameFrame s t) (b : Base) : s.baseInFrame b = t.baseInFrame b := by
  cases b with
  | eth => rfl
  | l3 => rfl
  | l4 => simp only [State.baseInFrame, State.l4InFrame, h.flen]
  | pl =>
    rw [Bool.eq_iff_iff]
    simp only [State.baseInFrame, State.plInFrame_iff]
    rw [← h.flen]
    exact and_congr_right fun hl => by rw [h.l4 hl]

theorem baseAddr (h : SameFrame s t) {b : Base} (hb : s.baseInFrame b = true) : s.baseAddr b = t.baseAddr b := by
  cases b with
  | eth => rfl
  | l3 => rfl
  | l4 => exact h.l4 (State.l4InFrame_iff.1 hb)
  | pl => exact h.pl (State.plInFrame_iff.1 hb).2

theorem fieldAddr (h : SameFrame s t) {f : Field} (hb : s.baseInFrame (fieldDesc f).base = true) :
    s.fieldAddr f = t.fieldAddr f := by
  rw [State.fieldAddr, State.fieldAddr, h.baseAddr hb]

theorem fieldInFrame (h : SameFrame s t) (f : Field) : s.fieldInFrame f = t.fieldInFrame f := by
  rw [Bool.eq_iff_iff, State.fieldInFrame_iff, State.fieldInFrame_iff, ← h.baseInFrame, ← h.flen]
  exact and_congr_right fun hb => by rw [h.fieldAddr hb]

theorem fieldValue (h : SameFrame s t) {f : Field} (hf : s.fieldInFrame f = true) : s.fieldValue f = t.fieldValue f := by
  obtain ⟨hb, hle⟩ := State.fieldInFrame_iff.1 hf
  have hbyte : ∀ k, k < fieldBytes f → s.byteAt (s.fieldAddr f + k) = t.byteAt (s.fieldAddr f + k) :=
    fun k hk => h.bytes _ (by omega)
  unfold State.fieldValue
  rw [← h.fieldAddr hb]
  unfold fieldBytes at hbyte
  cases hs : (fieldDesc f).shape with
  | bytes w => rw [hs] at hbyte; exact State.memRead_congr hbyte
  | hi => rw [hs] at hbyte; exact congrArg (·.toNat / 16) (hbyte 0 Nat.one_pos)
  | lo => rw [hs] at hbyte; exact congrArg (·.toNat % 16) (hbyte 0 Nat.one_pos)

theorem readField (h : SameFrame s t) (f : Field) : s.readField f = t.readField f := by
  unfold State.readField
  rw [← h.fieldInFrame]
  split
  · next hf => rw [h.fieldValue hf]
  · rfl

theorem fieldIs (h : SameFrame s t) (f : Field) (v : Nat) : s.fieldIs f v = t.fieldIs f v := by
  rw [State.fieldIs, State.fieldIs, h.readField]

/-! ### Checksums and the latch -/

theorem ckLast (h : SameFrame s t) (a n : Nat) (c : Acc) : ckLast s a n c = ckLast t a n c := by
  rw [Machine.ckLast, Machine.ckLast, h.readRegion]

/-- A header that is not in frame fails before it is summed; only then may the accumulators differ (R326). -/
theorem ckIp_result (h : SameFrame s t) : (ckIp s).result = (ckIp t).result := by
  rw [ckIp, ckIp, h.readField]
  cases t.readField .ipIhl with
  | none => rfl
  | some n => exact congrArg CkOut.result (h.ckLast _ _ _)

/-- `L4` is asked for only once the addresses are in frame, and there it is the same. -/
theorem ckTransport (h : SameFrame s t) (proto : BitVec 16) (n : Nat) : ckTransport s proto n = ckTransport t proto n := by
  have := h.flen
  by_cases hf : 34 ≤ s.flen
  · rw [Machine.ckTransport, Machine.ckTransport, h.readRegion, State.readRegion_of_le (s := t) (by omega), h.l4 (by omega)]
    exact h.ckLast _ _ _
  · rw [Machine.ckTransport, Machine.ckTransport, State.readRegion_of_lt (by omega), State.readRegion_of_lt (by omega)]

theorem ckUdp_result (h : SameFrame s t) : (ckUdp s).result = (ckUdp t).result := by
  rw [ckUdp, ckUdp, h.readField]
  cases t.readField .udpLen with
  | none => rfl
  | some u =>
    dsimp only
    split
    · rfl
    · rw [h.ckTransport]

theorem tcpPayloadLen (h : SameFrame s t) : s.tcpPayloadLen = t.tcpPayloadLen := by
  simp only [State.tcpPayloadLen, h.readField]

/-- What the latch would record is of the frame alone: its five fields lie within the 14 bytes that it asks for (R320). -/
theorem latchOf (h : SameFrame s t) : s.latchOf = t.latchOf := by
  have hge := s.l4_ge
  have hflen := h.flen
  by_cases hl : s.l4 + 14 ≤ s.flen
  · have hl4 : s.l4 = t.l4 := h.l4 (by omega)
    have hval : ∀ f : Field, (fieldDesc f).base = .l4 → (fieldDesc f).off + fieldBytes f ≤ 14 →
        s.fieldValue f = t.fieldValue f := fun f hb hle =>
      h.fieldValue ((State.fieldInFrame_l4 hb).2 (by omega))
    rw [State.latchOf, State.latchOf, State.l4InFrame, State.l4InFrame, ← hflen, ← hl4, h.tcpPayloadLen,
      hval .tcpSeq rfl (by decide), hval .tcpAck rfl (by decide), hval .tcpFlags rfl (by decide),
      hval .tcpSport rfl (by decide), hval .tcpDport rfl (by decide)]
  · have hnone : ∀ u : State, ¬ (15 ≤ u.flen ∧ u.l4 + 14 ≤ u.flen) → u.latchOf = none := fun u hu => by
      rw [State.latchOf, if_neg]
      simpa only [Bool.and_eq_true, decide_eq_true_iff, State.l4InFrame_iff] using hu
    rw [hnone s (by omega), hnone t]
    rintro ⟨h15, h14⟩
    exact hl (by rw [h.l4 (by omega), hflen]; exact h14)

theorem withAcc (h : SameFrame s t) (c d : Acc) : SameFrame (s.withAcc c) (t.withAcc d) :=
  ⟨h.frameLen, h.localIp, h.bytes⟩

theorem setLatch (h : SameFrame s t) (l m : Latch) : SameFrame (s.setLatch l) (t.setLatch m) :=
  ⟨h.frameLen, h.localIp, h.bytes⟩

end SameFrame

/-! ### Predicates -/

/-- Two answers with the same verdict that leave the same frame. -/
structure SameAnswer (a b : Answer) : Prop where
  holds : a.holds = b.holds
  state : SameFrame a.state b.state

/-- A predicate whose verdict is a function of the frame and `local_ip`, and that leaves both. -/
def ReadsFrameOnly (p : State → Answer) : Prop := ∀ ⦃s t : State⦄, SameFrame s t → SameAnswer (p s) (p t)

theorem isArpReq_readsFrameOnly : ReadsFrameOnly isArpReq := fun _ _ h =>
  ⟨by simp only [isArpReq, h.fieldIs, h.localIp], h⟩

theorem isIpUnicast_readsFrameOnly : ReadsFrameOnly isIpUnicast := fun _ _ h =>
  ⟨by simp only [isIpUnicast, h.fieldIs, h.localIp], h⟩

theorem isTcp_readsFrameOnly : ReadsFrameOnly isTcp := fun _ _ h => ⟨h.fieldIs _ _, h⟩

theorem isPingReq_readsFrameOnly : ReadsFrameOnly isPingReq := fun _ _ h =>
  ⟨by simp only [isPingReq, h.fieldIs], h⟩

theorem isIp_readsFrameOnly : ReadsFrameOnly isIp := fun _ _ h => by
  rw [isIp, isIp, h.fieldIs]
  split
  · exact ⟨congrArg (· == some 0) h.ckIp_result, h.withAcc _ _⟩
  · exact ⟨rfl, h⟩

theorem isUdpValid_readsFrameOnly : ReadsFrameOnly isUdpValid := fun _ _ h => by
  rw [isUdpValid, isUdpValid, h.fieldIs]
  split
  · exact ⟨congrArg (· == some 0) h.ckUdp_result, h.withAcc _ _⟩
  · exact ⟨rfl, h⟩

theorem SameFrame.latchIf {s t : State} (h : SameFrame s t) (b : Bool) : SameAnswer (latchIf b s) (latchIf b t) := by
  unfold Machine.latchIf
  rw [h.latchOf]
  cases b with
  | false => exact ⟨rfl, h⟩
  | true =>
    cases t.latchOf with
    | none => exact ⟨rfl, h⟩
    | some l => exact ⟨rfl, h.setLatch l l⟩

theorem flagsAre_readsFrameOnly (v : Nat) : ReadsFrameOnly (flagsAre v) := fun _ _ h => by
  rw [flagsAre, flagsAre, h.fieldIs]
  exact h.latchIf _

theorem mqttReplyIs_readsFrameOnly (v : Nat) : ReadsFrameOnly (mqttReplyIs v) := fun _ _ h => by
  rw [mqttReplyIs, mqttReplyIs, h.tcpPayloadLen, h.fieldIs]
  exact h.latchIf _

theorem eventPredicates_readFrameOnly : ∀ p ∈ eventPredicates, ReadsFrameOnly p := by
  simp only [eventPredicates, List.forall_mem_cons]
  exact ⟨flagsAre_readsFrameOnly _, flagsAre_readsFrameOnly _, flagsAre_readsFrameOnly _, flagsAre_readsFrameOnly _,
    mqttReplyIs_readsFrameOnly _, mqttReplyIs_readsFrameOnly _, mqttReplyIs_readsFrameOnly _,
    mqttReplyIs_readsFrameOnly _, nofun⟩

/-- Every predicate command replies with the answer of a predicate that reads the frame only. -/
theorem predicateCommands_readFrameOnly :
    ∀ i ∈ predicateCommands, ∃ p, ReadsFrameOnly p ∧ ∀ s, exec i s = .next (p s).reply := by
  simp only [predicateCommands, List.forall_mem_cons]
  exact ⟨⟨isArpReq, isArpReq_readsFrameOnly, fun _ => rfl⟩, ⟨isIp, isIp_readsFrameOnly, fun _ => rfl⟩,
    ⟨isIpUnicast, isIpUnicast_readsFrameOnly, fun _ => rfl⟩, ⟨isPingReq, isPingReq_readsFrameOnly, fun _ => rfl⟩,
    ⟨isUdpValid, isUdpValid_readsFrameOnly, fun _ => rfl⟩, ⟨isTcp, isTcp_readsFrameOnly, fun _ => rfl⟩,
    ⟨flagsAre 0x12, flagsAre_readsFrameOnly _, fun _ => rfl⟩, ⟨flagsAre 0x10, flagsAre_readsFrameOnly _, fun _ => rfl⟩,
    ⟨flagsAre 0x18, flagsAre_readsFrameOnly _, fun _ => rfl⟩, ⟨flagsAre 0x11, flagsAre_readsFrameOnly _, fun _ => rfl⟩,
    ⟨mqttReplyIs 0x20, mqttReplyIs_readsFrameOnly _, fun _ => rfl⟩,
    ⟨mqttReplyIs 0x90, mqttReplyIs_readsFrameOnly _, fun _ => rfl⟩,
    ⟨mqttReplyIs 0xB0, mqttReplyIs_readsFrameOnly _, fun _ => rfl⟩,
    ⟨mqttReplyIs 0xD0, mqttReplyIs_readsFrameOnly _, fun _ => rfl⟩, nofun⟩

/-! ### The combined classification -/

theorem ReadsFrameOnly.gated {p : State → Answer} (hp : ReadsFrameOnly p) {g g' : Bool} (hg : g = g') {s t : State}
    (h : SameFrame s t) : SameAnswer (gated g p s) (gated g' p t) := by
  subst hg
  cases g with
  | false => exact ⟨rfl, h⟩
  | true => exact hp h

/-- Each predicate is asked in the state that the one before has left, which holds the same frame. -/
theorem askAll_answers {g g' : Bool} (hg : g = g') {ps : List (State → Answer)} (hps : ∀ p ∈ ps, ReadsFrameOnly p)
    {s t : State} (h : SameFrame s t) : (askAll g ps s).2 = (askAll g' ps t).2 := by
  induction ps generalizing s t with
  | nil => rfl
  | cons p ps ih =>
    obtain ⟨hp, hrest⟩ := List.forall_mem_cons.1 hps
    have hask := hp.gated hg h
    exact congrArg₂ List.cons hask.holds (ih hrest hask.state)

theorem SameFrame.classifyBits_answers {s t : State} (h : SameFrame s t) : (classifyBits s).2 = (classifyBits t).2 := by
  have arp := isArpReq_readsFrameOnly h
  have ip := isIp_readsFrameOnly arp.state
  have uni := isIpUnicast_readsFrameOnly.gated ip.holds ip.state
  have ping := isPingReq_readsFrameOnly.gated uni.holds uni.state
  have udp := isUdpValid_readsFrameOnly.gated uni.holds ping.state
  have tcp := isTcp_readsFrameOnly.gated uni.holds udp.state
  have events := askAll_answers tcp.holds eventPredicates_readFrameOnly tcp.state
  simp only [classifyBits]
  rw [events, tcp.holds, udp.holds, ping.holds, uni.holds, ip.holds, arp.holds]

/-- CLASSIFY always completes, and its result is the fourteen answers (R318). -/
theorem classify_reply {s t : State} (h : exec .classify s = .next t) :
    t.rdata = (clsVector (classifyBits s).2).setWidth 48 ∧ t.status = .ok := by
  cases h
  exact ⟨rfl, rfl⟩

/-- Settles O39: CLASSIFY and every predicate command reply with verdicts that are functions of the frame and `local_ip`. -/
theorem classifiersReadFrameOnly : Obligations.ClassifiersReadFrameOnly := by
  intro i s s' t t' hi hlen hip hbytes ht ht'
  have h : SameFrame s s' := ⟨hlen, hip, hbytes⟩
  rcases List.mem_cons.1 hi with rfl | hi
  · obtain ⟨hr, hst⟩ := classify_reply ht
    obtain ⟨hr', hst'⟩ := classify_reply ht'
    rw [hr, hst, hr', hst', h.classifyBits_answers]
    exact ⟨rfl, rfl⟩
  · obtain ⟨p, hp, hexec⟩ := predicateCommands_readFrameOnly i hi
    rw [hexec] at ht ht'
    cases ht
    cases ht'
    exact ⟨congrArg bit (hp h).holds, rfl⟩

end Sys2Proof.Machine
end

section
/-! PROOF. What RX_POLL takes from the transport (R79, R430). -/

namespace Sys2Proof.Machine

/-- The overflow indication, in the bit of `rdata` that R430 gives it. -/
theorem overflow_value (ovf : Bool) : 65536 * ovf.toNat = if ovf then 65536 else 0 := by cases ovf <;> rfl

/-- A stored byte string reads back, index by index. -/
theorem State.getElem?_eq_byteAt_storeBytes {bs : List Byte} {k : Nat} (h : k < bs.length) (a : Nat) (s : State) :
    bs[k]? = some ((s.storeBytes a bs).byteAt (a + k)) := by
  rw [State.byteAt_storeBytes, if_pos (by omega), Nat.add_sub_cancel_left, List.getD_eq_getElem _ _ h,
    List.getElem?_eq_getElem h]

/-- RX_POLL with nothing offered. -/
theorem exec_rxPoll_none {s : State} (h : s.env.rxFrame = none) (len : Nat) :
    exec (.rxPoll len) s = .next (s.done (BitVec.ofNat 48 (65536 * s.env.rxOvf.toNat))) := by
  show execRxPoll len s = _
  rw [execRxPoll, h]

/-- RX_POLL with a frame offered: its first bytes, as many as the operand and the buffer let in, are the new frame. -/
theorem exec_rxPoll_some {s : State} {f : List Byte} (h : s.env.rxFrame = some f) (len : Nat) :
    exec (.rxPoll len) s = .next ((((s.storeBytes 0 (f.take (min f.length (min len 1522)))).setFlen
      (min f.length (min len 1522))).clearCls).done
        (BitVec.ofNat 48 (65536 * s.env.rxOvf.toNat + min f.length (min len 1522)))) := by
  show execRxPoll len s = _
  rw [execRxPoll, h]
  rfl

/-- Settles O53: RX_POLL stores the first bytes of the offered frame from address 0, so those below the new length are its
bytes and those above are kept. -/
theorem rxPollReceives : Obligations.RxPollReceives := by
  intro s len ovf
  constructor
  · intro hnone
    rw [exec_rxPoll_none hnone, overflow_value]
    rfl
  · intro f hsome n
    have htaken : (f.take n).length = n := List.length_take_of_le (Nat.min_le_left _ _)
    refine ⟨_, exec_rxPoll_some hsome len, ?_, fun k hk => ?_, fun a ha => ?_⟩
    · rw [overflow_value]; rfl
    · have hstored := State.getElem?_eq_byteAt_storeBytes (htaken.symm ▸ hk : k < (f.take n).length) 0 s
      rw [List.getElem?_take_of_lt hk, Nat.zero_add] at hstored
      exact hstored
    · exact State.byteAt_storeBytes_of_not (by rw [htaken]; omega)

end Sys2Proof.Machine
end

section
/-! PROOF. The round trip between command words and instructions (R110, R121 to R128): one inversion of the decoder by the
formats of the table, read by the encoder, by `wellFormed` and by the legality of words. -/

namespace Sys2Proof

open Machine

/-! ### The decoder by formats -/

/-- What the parts of a legal command word stand for, a case for each format of R121 to R126: the opcode, `cw[23:12]`,
`cw[11:0]` and the instruction. -/
inductive CommandRow : Nat → Nat → Nat → Instr → Prop
  /-- Formats Z and W: nothing but the opcode. -/
  | plain {op : Nat} {i : Instr} (hop : op ∈ plainOpcodes) (hi : decodeParts op 0 0 = .ok i) : CommandRow op 0 0 i
  | rxPoll (lo : Nat) : CommandRow 0x01 0 lo (.rxPoll lo)
  | bufRd (hi : Nat) : CommandRow 0x03 hi 0 (.bufRd hi)
  | bufWr (hi : Nat) {lo : Nat} (hlo : lo < 256) : CommandRow 0x04 hi lo (.bufWr hi (BitVec.ofNat 8 lo))
  | bufSetlen (lo : Nat) : CommandRow 0x05 0 lo (.bufSetlen lo)
  | cfgSetDhcp {lo : Nat} (hlo : lo < 2) : CommandRow 0x10 0 lo (.cfgSetDhcp (lo == 1))
  | ckAcc (hi lo : Nat) : CommandRow 0x21 hi lo (.ckAcc hi lo)
  | ckAccW16 {hi : Nat} (lo : Nat) (hhi : hi < 16) :
      CommandRow 0x22 hi lo (.ckAccW16 (BitVec.ofNat 16 (hi % 16 * 4096 + lo)))
  | get {fid : Nat} {f : Field} (hf : fieldOfFid fid = some f) : CommandRow 0x30 (fid * 16) 0 f.getInstr
  | derived {fid : Nat} {i : Instr} (hf : derivedOfFid fid = some i) : CommandRow 0x30 (fid * 16) 0 i
  | put {fid : Nat} {f : Field} (hf : fieldOfFid fid = some f) : CommandRow 0x31 (fid * 16) 0 f.putInstr
  | bldUdpReply (hi : Nat) : CommandRow 0x63 hi 0 (.bldUdpReply hi)
  | bldMqttPublish (hi lo : Nat) : CommandRow 0x67 hi lo (.bldMqttPublish hi lo)
  | bldMqttSubscribe (hi : Nat) : CommandRow 0x68 hi 0 (.bldMqttSubscribe hi)
  | bldMqttUnsubscribe (hi : Nat) : CommandRow 0x69 hi 0 (.bldMqttUnsubscribe hi)
  | req {lo : Nat} (hlo : lo < 4) : CommandRow 0x70 0 lo (.req (BitVec.ofNat 2 lo))
  | step {lo : Nat} (hlo : lo < 2) : CommandRow 0x71 0 lo (.step (lo == 1))

/-! Each test of the must-be-zero bits (R121), as what it asks of the fields. -/

theorem ifZero_beq_eq_ok {n : Nat} {i j : Instr} : ifZero (n == 0) i = .ok j ↔ n = 0 ∧ i = j := by
  rw [ifZero_eq_ok, beq_iff_eq]

theorem ifZero_div_eq_ok {n d : Nat} (hd : 0 < d) {i j : Instr} : ifZero (n / d == 0) i = .ok j ↔ n < d ∧ i = j := by
  rw [ifZero_eq_ok, beq_iff_eq, Nat.div_eq_zero_iff_lt hd]

theorem ifZero_and_eq_ok {m : Nat} {z : Bool} {i j : Instr} :
    ifZero (m == 0 && z) i = .ok j ↔ m = 0 ∧ ifZero z i = .ok j := by
  rw [ifZero_eq_ok, ifZero_eq_ok, Bool.and_eq_true, beq_iff_eq, and_assoc]

theorem ifZero_both_eq_ok {hi lo : Nat} {i j : Instr} :
    ifZero (hi == 0 && lo == 0) i = .ok j ↔ hi = 0 ∧ lo = 0 ∧ i = j := by
  rw [ifZero_and_eq_ok, ifZero_beq_eq_ok]

theorem ifZero_and_div_eq_ok {m n d : Nat} (hd : 0 < d) {i j : Instr} :
    ifZero (m == 0 && n / d == 0) i = .ok j ↔ m = 0 ∧ n < d ∧ i = j := by
  rw [ifZero_and_eq_ok, ifZero_div_eq_ok hd]

/-- The operand field of a `GET` or a `PUT` is a field id followed by zeros (R121, R124). -/
theorem ifZero_fid_eq_ok {hi lo : Nat} {i j : Instr} :
    ifZero (hi % 16 == 0 && lo == 0) i = .ok j ↔ hi = hi / 16 * 16 ∧ lo = 0 ∧ i = j := by
  rw [ifZero_and_eq_ok, ifZero_beq_eq_ok, show hi % 16 = 0 ↔ hi = hi / 16 * 16 by omega]

theorem CommandRow.of_decodeGet {hi lo : Nat} {i : Instr}
    (h : decodeGet (hi / 16) (hi % 16 == 0 && lo == 0) = .ok i) : CommandRow 0x30 hi lo i := by
  unfold decodeGet at h
  split at h
  · next f hf =>
    obtain ⟨hhi, rfl, rfl⟩ := ifZero_fid_eq_ok.1 h
    rw [hhi]; exact .get hf
  · split at h
    · next hf =>
      obtain ⟨hhi, rfl, rfl⟩ := ifZero_fid_eq_ok.1 h
      rw [hhi]; exact .derived hf
    · cases h

theorem CommandRow.of_decodePut {hi lo : Nat} {i : Instr}
    (h : decodePut (hi / 16) (hi % 16 == 0 && lo == 0) = .ok i) : CommandRow 0x31 hi lo i := by
  unfold decodePut at h
  split at h
  · next f hf =>
    obtain ⟨hhi, rfl, rfl⟩ := ifZero_fid_eq_ok.1 h
    rw [hhi]; exact .put hf
  · split at h <;> cases h

/-- The inversion of the decoder: a word that decodes has one of the formats. The opcodes with operand fields
come first, row by row; every other one has both fields zero. -/
theorem CommandRow.of_decodeParts {op hi lo : Nat} {i : Instr} (h : decodeParts op hi lo = .ok i) :
    CommandRow op hi lo i := by
  unfold decodeParts at h
  split at h
  case h_1 => obtain ⟨rfl, rfl⟩ := ifZero_beq_eq_ok.1 h; exact .rxPoll lo
  case h_3 => obtain ⟨rfl, rfl⟩ := ifZero_beq_eq_ok.1 h; exact .bufRd hi
  case h_4 => obtain ⟨hlo, rfl⟩ := (ifZero_div_eq_ok (by decide)).1 h; exact .bufWr hi hlo
  case h_5 => obtain ⟨rfl, rfl⟩ := ifZero_beq_eq_ok.1 h; exact .bufSetlen lo
  case h_16 => obtain ⟨rfl, hlo, rfl⟩ := (ifZero_and_div_eq_ok (by decide)).1 h; exact .cfgSetDhcp hlo
  case h_18 => cases h; exact .ckAcc hi lo
  case h_19 => obtain ⟨hhi, rfl⟩ := (ifZero_div_eq_ok (by decide)).1 h; exact .ckAccW16 lo hhi
  case h_21 => exact .of_decodeGet h
  case h_22 => exact .of_decodePut h
  case h_42 => obtain ⟨rfl, rfl⟩ := ifZero_beq_eq_ok.1 h; exact .bldUdpReply hi
  case h_46 => cases h; exact .bldMqttPublish hi lo
  case h_47 => obtain ⟨rfl, rfl⟩ := ifZero_beq_eq_ok.1 h; exact .bldMqttSubscribe hi
  case h_48 => obtain ⟨rfl, rfl⟩ := ifZero_beq_eq_ok.1 h; exact .bldMqttUnsubscribe hi
  case h_51 => obtain ⟨rfl, hlo, rfl⟩ := (ifZero_and_div_eq_ok (by decide)).1 h; exact .req hlo
  case h_52 => obtain ⟨rfl, hlo, rfl⟩ := (ifZero_and_div_eq_ok (by decide)).1 h; exact .step hlo
  case h_55 => cases h
  all_goals
    obtain ⟨rfl, rfl, rfl⟩ := ifZero_both_eq_ok.1 h
    exact .plain (by decide) rfl

/-- The id of a derived quantity names no field of the frame. -/
theorem fieldOfFid_of_derived {n : Nat} {i : Instr} (h : derivedOfFid n = some i) : fieldOfFid n = none := by
  unfold derivedOfFid at h
  split at h
  case h_6 => cases h
  all_goals rfl

/-- Every format decodes. -/
theorem CommandRow.decodeParts_eq {op hi lo : Nat} {i : Instr} (h : CommandRow op hi lo i) :
    decodeParts op hi lo = .ok i := by
  cases h with
  | plain _ hi => exact hi
  | rxPoll | bufRd | bufSetlen | ckAcc | bldUdpReply | bldMqttPublish | bldMqttSubscribe | bldMqttUnsubscribe => rfl
  | bufWr hi hlo => exact (ifZero_div_eq_ok (by decide)).2 ⟨hlo, rfl⟩
  | cfgSetDhcp hlo | req hlo | step hlo => exact (ifZero_and_div_eq_ok (by decide)).2 ⟨rfl, hlo, rfl⟩
  | ckAccW16 lo hhi => exact (ifZero_div_eq_ok (by decide)).2 ⟨hhi, rfl⟩
  | @get fid f hf => simp [decodeParts, decodeGet, hf, ifZero]
  | @derived fid i hf => simp [decodeParts, decodeGet, hf, fieldOfFid_of_derived hf, ifZero]
  | @put fid f hf => simp [decodeParts, decodePut, hf, ifZero]

/-- What the decoder reads, said once: the formats and nothing else. -/
theorem decodeParts_eq_ok {op hi lo : Nat} {i : Instr} : decodeParts op hi lo = .ok i ↔ CommandRow op hi lo i :=
  ⟨.of_decodeParts, CommandRow.decodeParts_eq⟩

/-! ### The encoder and `wellFormed` by formats -/

/-- The opcode alone is the word of the well-formed instruction it decodes to. -/
def encodesPlain (op : Nat) : Bool :=
  match decodeParts op 0 0 with
  | .ok i => encode i == packCommand op 0 0 && i.wellFormed
  | .error _ => false

theorem encodesPlain_of_mem : ∀ op ∈ plainOpcodes, encodesPlain op = true := by decide

theorem encodesPlain_of_ok {op : Nat} {i : Instr} (h : decodeParts op 0 0 = .ok i) (he : encodesPlain op = true) :
    encode i = packCommand op 0 0 ∧ i.wellFormed = true := by
  rwa [encodesPlain, h, Bool.and_eq_true, beq_iff_eq] at he

/-! The five derived quantities of R124: their word, that they have no operand to overflow, and their ids. -/

theorem encode_of_derivedOfFid {n : Nat} {i : Instr} (h : derivedOfFid n = some i) : encode i = packGet n := by
  unfold derivedOfFid at h
  split at h <;> cases h <;> rfl

theorem wellFormed_of_derivedOfFid {n : Nat} {i : Instr} (h : derivedOfFid n = some i) : i.wellFormed = true := by
  unfold derivedOfFid at h
  split at h <;> cases h <;> rfl

theorem mem_of_derivedOfFid {n : Nat} {i : Instr} (h : derivedOfFid n = some i) :
    n ∈ [0x70, 0x71, 0x72, 0x73, 0x74] := by
  unfold derivedOfFid at h
  split at h <;> cases h <;> decide

theorem wellFormed_getInstr (f : Field) : f.getInstr.wellFormed = true := by cases f <;> rfl

theorem wellFormed_putInstr (f : Field) : f.putInstr.wellFormed = true := by cases f <;> rfl

theorem fits12_of_lt {n : Nat} (h : n < 4096) : fits12 n = true := decide_eq_true h

/-- A one-bit operand is its field. -/
theorem toNat_beq_one {n : Nat} (h : n < 2) : (n == 1).toNat = n := by interval_cases n <;> rfl

/-- The encoder packs the parts of the format back. -/
theorem CommandRow.encode_eq {op hi lo : Nat} {i : Instr} (h : CommandRow op hi lo i) (hlt : lo < 4096) :
    encode i = packCommand op hi lo := by
  cases h with
  | plain hop hi => exact (encodesPlain_of_ok hi (encodesPlain_of_mem _ hop)).1
  | rxPoll | bufRd | bufSetlen | ckAcc | bldUdpReply | bldMqttPublish | bldMqttSubscribe | bldMqttUnsubscribe => rfl
  | bufWr hi hlo => simp only [encode]; rw [BitVec.toNat_ofNat, Nat.mod_eq_of_lt hlo]
  | cfgSetDhcp hlo | step hlo => simp only [encode]; rw [toNat_beq_one hlo]
  | req hlo => simp only [encode]; rw [BitVec.toNat_ofNat, Nat.mod_eq_of_lt hlo]
  | ckAccW16 lo hhi =>
    simp only [encode]
    rw [BitVec.toNat_ofNat]; congr 1 <;> omega
  | get hf => rw [encode_getInstr, fid_of_fieldOfFid hf]; rfl
  | derived hf => exact encode_of_derivedOfFid hf
  | put hf => rw [encode_putInstr, fid_of_fieldOfFid hf]; rfl

/-- What is read from 12-bit fields fits them. -/
theorem CommandRow.wellFormed {op hi lo : Nat} {i : Instr} (h : CommandRow op hi lo i) (hhi : hi < 4096)
    (hlo : lo < 4096) : i.wellFormed = true := by
  cases h with
  | plain hop hi => exact (encodesPlain_of_ok hi (encodesPlain_of_mem _ hop)).2
  | rxPoll | bufSetlen => exact fits12_of_lt hlo
  | bufRd | bufWr | bldUdpReply | bldMqttSubscribe | bldMqttUnsubscribe => exact fits12_of_lt hhi
  | ckAcc | bldMqttPublish => exact Bool.and_eq_true_iff.2 ⟨fits12_of_lt hhi, fits12_of_lt hlo⟩
  | cfgSetDhcp | ckAccW16 | req | step => rfl
  | get => exact wellFormed_getInstr _
  | derived hf => exact wellFormed_of_derivedOfFid hf
  | put => exact wellFormed_putInstr _

/-- The word of a format decodes to its instruction. -/
theorem CommandRow.decode_encode {op hi lo : Nat} {i : Instr} (h : CommandRow op hi lo i) (hop : op < 256)
    (hhi : hi < 4096) (hlo : lo < 4096) : decode (encode i) = .ok i := by
  rw [h.encode_eq hlo, decode_packCommand hop hhi hlo, h.decodeParts_eq]

/-- The encoder gives a frame field's value back. -/
theorem encode_of_decodeWire {f : WireField} {n : Nat} {i : Instr} (h : decodeWire f n = .ok i) :
    encode i = .wire f (BitVec.ofNat 16 n) ∧ i.wellFormed = true := by
  unfold decodeWire at h
  split at h <;> cases h <;> exact ⟨rfl, rfl⟩

/-- Settles O2: by the inversion of the decoder. The parts of a command word pack back into it. -/
theorem encodeDecode : Obligations.EncodeDecode := by
  intro e i h
  cases e with
  | command cw =>
    have hrow : CommandRow (cwOp cw) (cwHi cw) (cwLo cw) i := decodeParts_eq_ok.1 h
    exact ⟨(hrow.encode_eq (cwLo_lt cw)).trans (packCommand_parts cw), hrow.wellFormed (cwHi_lt cw) (cwLo_lt cw)⟩
  | wire f v =>
    have hwire := encode_of_decodeWire h
    rwa [BitVec.ofNat_toNat, BitVec.setWidth_eq] at hwire

/-- Settles O1: an instruction with operands is the instruction of its format with the operands in its fields; every other
one is a closed word. -/
theorem decodeEncode : Obligations.DecodeEncode := by
  intro i h
  cases i with
  | rxPoll len => exact (CommandRow.rxPoll len).decode_encode (by decide) (by decide) (Laws.lt_of_fits12 h)
  | bufRd idx => exact (CommandRow.bufRd idx).decode_encode (by decide) (Laws.lt_of_fits12 h) (by decide)
  | bufWr idx byte =>
    have hrow := CommandRow.bufWr idx byte.isLt
    rw [BitVec.ofNat_toNat, BitVec.setWidth_eq] at hrow
    exact hrow.decode_encode (by decide) (Laws.lt_of_fits12 h) (by have := byte.isLt; omega)
  | bufSetlen len => exact (CommandRow.bufSetlen len).decode_encode (by decide) (by decide) (Laws.lt_of_fits12 h)
  | cfgSetDhcp k => cases k <;> rfl
  | ckAcc off len =>
    obtain ⟨hoff, hlen⟩ := Bool.and_eq_true_iff.1 h
    exact (CommandRow.ckAcc off len).decode_encode (by decide) (Laws.lt_of_fits12 hoff) (Laws.lt_of_fits12 hlen)
  | ckAccW16 imm =>
    have himm := imm.isLt
    have hrow := CommandRow.ckAccW16 (hi := imm.toNat / 4096) (imm.toNat % 4096) (by omega)
    rw [show imm.toNat / 4096 % 16 * 4096 + imm.toNat % 4096 = imm.toNat by omega, BitVec.ofNat_toNat,
      BitVec.setWidth_eq] at hrow
    exact hrow.decode_encode (by decide) (by omega) (by omega)
  | bldUdpReply n => exact (CommandRow.bldUdpReply n).decode_encode (by decide) (Laws.lt_of_fits12 h) (by decide)
  | bldMqttPublish n m =>
    obtain ⟨hn, hm⟩ := Bool.and_eq_true_iff.1 h
    exact (CommandRow.bldMqttPublish n m).decode_encode (by decide) (Laws.lt_of_fits12 hn) (Laws.lt_of_fits12 hm)
  | bldMqttSubscribe n =>
    exact (CommandRow.bldMqttSubscribe n).decode_encode (by decide) (Laws.lt_of_fits12 h) (by decide)
  | bldMqttUnsubscribe n =>
    exact (CommandRow.bldMqttUnsubscribe n).decode_encode (by decide) (Laws.lt_of_fits12 h) (by decide)
  | req k =>
    have hrow := CommandRow.req k.isLt
    rw [BitVec.ofNat_toNat, BitVec.setWidth_eq] at hrow
    exact hrow.decode_encode (by decide) (by decide) (by have := k.isLt; omega)
  | step tw => cases tw <;> rfl
  | _ => rfl

/-! ### Legal words (R121, R128) -/

theorem fid_mem_fieldIds (f : Field) : f.fid ∈ fieldIds := by cases f <;> decide

theorem fieldOfFid_isSome : ∀ n ∈ fieldIds, (fieldOfFid n).isSome = true := by decide

theorem mem_fieldIds_of_fieldOfFid {n : Nat} {f : Field} (h : fieldOfFid n = some f) : n ∈ fieldIds :=
  fid_of_fieldOfFid h ▸ fid_mem_fieldIds f

theorem derivedOfFid_isSome : ∀ n ∈ [0x70, 0x71, 0x72, 0x73, 0x74], (derivedOfFid n).isSome = true := by decide

/-- The opcode alone decodes. -/
theorem decodeParts_of_mem_plainOpcodes {op : Nat} (h : op ∈ plainOpcodes) : ∃ i, decodeParts op 0 0 = .ok i := by
  have he := encodesPlain_of_mem op h
  unfold encodesPlain at he
  split at he
  · exact ⟨_, ‹_›⟩
  · cases he

/-- A word of any of the formats is legal. -/
theorem legalWord_of_row {cw : BitVec 32} {i : Instr} (h : CommandRow (cwOp cw) (cwHi cw) (cwLo cw) i) : legalWord cw := by
  unfold legalWord
  change CommandRow (cw.toNat / 16777216) (cw.toNat / 4096 % 4096) (cw.toNat % 4096) i at h
  generalize cw.toNat / 16777216 = op, cw.toNat / 4096 % 4096 = hi, cw.toNat % 4096 = lo at h ⊢
  cases h with
  | plain hop => exact .inl ⟨hop, rfl, rfl⟩
  | get hf => simp [mem_fieldIds_of_fieldOfFid hf]
  | derived hf =>
    have hfid := mem_of_derivedOfFid hf
    simp_all
  | put hf => simp [mem_fieldIds_of_fieldOfFid hf]
  | _ => simp_all

/-- A legal word has one of the formats: disjunct by disjunct of `legalWord`. -/
theorem exists_row_of_legalWord {cw : BitVec 32} (h : legalWord cw) :
    ∃ i, CommandRow (cwOp cw) (cwHi cw) (cwLo cw) i := by
  unfold legalWord at h
  change ∃ i, CommandRow (cw.toNat / 16777216) (cw.toNat / 4096 % 4096) (cw.toNat % 4096) i
  generalize cw.toNat / 16777216 = op, cw.toNat / 4096 % 4096 = hi, cw.toNat % 4096 = lo at h ⊢
  simp only [List.mem_cons, List.not_mem_nil, or_false] at h
  obtain ⟨hop, rfl, rfl⟩ | ⟨rfl | rfl, rfl⟩ | (rfl | rfl) | ⟨rfl, hhi⟩ | ⟨rfl, rfl⟩ | ⟨rfl, hlo⟩ | ⟨rfl, rfl, hz, hfid⟩ |
    ⟨rfl, rfl, hz, hfid⟩ | ⟨rfl, rfl, hlo⟩ | ⟨rfl | rfl, rfl, hlo⟩ | ⟨rfl | rfl | rfl, rfl⟩ := h
  · obtain ⟨i, hi⟩ := decodeParts_of_mem_plainOpcodes hop
    exact ⟨i, .plain hop hi⟩
  · exact ⟨_, .rxPoll lo⟩
  · exact ⟨_, .bufSetlen lo⟩
  · exact ⟨_, .ckAcc hi lo⟩
  · exact ⟨_, .bldMqttPublish hi lo⟩
  · exact ⟨_, .ckAccW16 lo hhi⟩
  · exact ⟨_, .bufRd hi⟩
  · exact ⟨_, .bufWr hi hlo⟩
  · rw [show hi = hi / 16 * 16 by omega]
    rcases List.mem_append.1 hfid with hmem | hmem
    · obtain ⟨f, hf⟩ := Option.isSome_iff_exists.1 (fieldOfFid_isSome _ hmem)
      exact ⟨_, .get hf⟩
    · obtain ⟨i, hi⟩ := Option.isSome_iff_exists.1 (derivedOfFid_isSome _ hmem)
      exact ⟨i, .derived hi⟩
  · rw [show hi = hi / 16 * 16 by omega]
    obtain ⟨f, hf⟩ := Option.isSome_iff_exists.1 (fieldOfFid_isSome _ hfid)
    exact ⟨_, .put hf⟩
  · exact ⟨_, .req hlo⟩
  · exact ⟨_, .cfgSetDhcp hlo⟩
  · exact ⟨_, .step hlo⟩
  · exact ⟨_, .bldUdpReply hi⟩
  · exact ⟨_, .bldMqttSubscribe hi⟩
  · exact ⟨_, .bldMqttUnsubscribe hi⟩

/-- The legal words are those that decode (R128). -/
theorem legalWord_iff_decodes (cw : BitVec 32) : legalWord cw ↔ ∃ i, decodeCommand cw = .ok i :=
  calc legalWord cw
    _ ↔ ∃ i, CommandRow (cwOp cw) (cwHi cw) (cwLo cw) i := ⟨exists_row_of_legalWord, fun ⟨_, h⟩ => legalWord_of_row h⟩
    _ ↔ ∃ i, decodeCommand cw = .ok i := exists_congr fun _ => decodeParts_eq_ok.symm

end Sys2Proof
end

section
/-! PROOF. A step of the command port: what it does with a legal word and with an illegal one (R120, R128). -/

namespace Sys2Proof.Machine

/-- A step takes the first stimulus. -/
theorem step_of_pending {s : State} {x : Stimulus} {rest : List Stimulus} (h : s.pending = x :: rest) :
    step s = takeStimulus (s.withPending rest) x := by
  unfold step takeNext; rw [h]

/-- A legal command is executed and its result observed (R120, R454). -/
theorem takeCommand_of_ok {c : Command} {i : Instr} (h : decodeCommand c.cw = .ok i) (s : State) :
    takeCommand c s = .next (after i (s.present c)).observe := by
  unfold takeCommand
  rw [h]
  show returnResult (exec i (s.present c)) = _
  rw [exec_eq_after]; rfl

/-- An illegal command is `ERR_OPCODE` and nothing else (R128). -/
theorem takeCommand_of_illegal {c : Command} (h : ¬ legalWord c.cw) (s : State) :
    takeCommand c s = .next ((s.present c).raise .errOpcode).observe := by
  unfold takeCommand
  cases hd : decodeCommand c.cw with
  | ok i => exact absurd ((legalWord_iff_decodes c.cw).2 ⟨i, hd⟩) h
  | error e => rfl

/-- A value of a frame field that a row names runs the row (log 9). -/
theorem takeWire_of_ok {f : WireField} {v : BitVec 16} {i : Instr} (h : decodeWire f v.toNat = .ok i) (s : State) :
    takeWire f v s = exec i s := by
  unfold takeWire; rw [h]

theorem not_legalWord_zero : ¬ legalWord 0 := by
  rw [legalWord_iff_decodes]
  rintro ⟨i, hi⟩
  cases hi

/-- Settles O3: by the formats, and by what a step does with a word that does not decode. -/
theorem illegalWordIsErrOpcode : Obligations.IllegalWordIsErrOpcode := by
  refine ⟨legalWord_iff_decodes, not_legalWord_zero, fun c rest s hp hill => ?_⟩
  rw [step_of_pending hp]
  exact takeCommand_of_illegal hill _

/-- Settles O4: the decoder evaluated on the eleven words. -/
theorem decodedWords : Obligations.DecodedWords :=
  ⟨rfl, rfl, rfl, rfl, rfl, rfl, rfl, rfl, rfl, rfl, rfl⟩

/-- Settles O5: every instruction goes on, so the command always returns a result. -/
theorem stepRunsDecoded : Obligations.StepRunsDecoded := by
  constructor
  · intro s c rest i hp hd
    refine ⟨_, exec_eq_after i _, ?_⟩
    rw [step_of_pending hp]
    exact takeCommand_of_ok hd _
  · intro s f v rest i hp hd
    rw [step_of_pending hp]
    exact takeWire_of_ok hd _

/-- Settles O24: the tables of R101 to R108 row by row. -/
theorem fieldLayout : Obligations.FieldLayout :=
  ⟨by decide, by decide, by decide, rfl, rfl, rfl, rfl, rfl, rfl, rfl⟩

end Sys2Proof.Machine
end

section
/-! PROOF. The two TCP builders without a payload (R352, R353), and the pseudo-command CK_IP (R127, R163). -/

namespace Sys2Proof.Machine

/-! ### BLD_TCP_SYN and BLD_TCP_ACK -/

/-- The emitter reads no `local_port`: the segment carried is carried from the state before the port was drawn. -/
theorem State.Carries.of_localPort {t s : State} {p : BitVec 16} {g : Segment}
    (h : t.Carries { s with localPort := p } g) : t.Carries s g := { h with }

/-- The environment's draw lies below the number of ephemeral ports (R9). -/
theorem State.portDraw_lt (s : State) : s.env.portDraw.val < 48128 := s.env.portDraw.isLt

theorem State.drawnPort_toNat (s : State) : s.drawnPort.toNat = 1024 + s.env.portDraw.val := by
  have := s.portDraw_lt
  rw [State.drawnPort, Config.ephLo, BitVec.toNat_ofNat]; omega

/-- The port drawn is an ephemeral one (R9, R352). -/
theorem State.drawnPort_bounds (s : State) : 1024 ≤ s.drawnPort.toNat ∧ s.drawnPort.toNat ≤ 49151 := by
  have := s.portDraw_lt
  rw [s.drawnPort_toNat]; omega

theorem exec_bldTcpSyn (s : State) :
    exec .bldTcpSyn s = .next (emitTcp s.synSegment { s with localPort := s.drawnPort }) := rfl

theorem exec_bldTcpAck (s : State) : exec .bldTcpAck s = .next (emitTcp (replySegment 0x10 [] s) s) := rfl

/-- The option's length is two bytes of a 16-bit value, high byte first (R109). -/
theorem mssOption_eq (p : Config.Params) :
    mssOption p = [0x02, 0x04, BitVec.ofNat 8 (p.mssValue.toNat / 256), BitVec.ofNat 8 p.mssValue.toNat] := by
  simp [mssOption, beBytes]

theorem bldTcpSyn_emits (s : State) :
    ∃ t, exec .bldTcpSyn s = .next t ∧
      t = { s with
            buf := t.buf, frameLen := 58, cls := 0, clsFresh := false, sum := t.sum, phase := t.phase,
            localPort := s.drawnPort, rdata := 58, status := .ok } ∧
      t.Carries s s.synSegment := by
  have hopts : s.synSegment.opts.length = 4 := by simp [State.synSegment, mssOption]
  obtain ⟨t, he, ht, hc⟩ := emitTcp_spec s.synSegment { s with localPort := s.drawnPort }
    (by rw [s.synSegment_tcpLen]; decide) (by rw [hopts]; decide) (by decide : (0x02 : Nat) < 4096)
  rw [s.synSegment_tcpLen] at ht
  exact ⟨t, by rw [exec_bldTcpSyn, he], ht, hc.of_localPort⟩

theorem bldTcpAck_emits (s : State) :
    ∃ t, exec .bldTcpAck s = .next t ∧
      t = { s with
            buf := t.buf, frameLen := 54, cls := 0, clsFresh := false, sum := t.sum, phase := t.phase,
            rdata := 54, status := .ok } ∧
      t.Carries s (replySegment 0x10 [] s) := by
  obtain ⟨t, he, ht, hc⟩ := emitTcp_spec (replySegment 0x10 [] s) s (by decide : 34 + 20 ≤ 1522)
    (by decide : 0 ≤ 40) (by decide : (0x10 : Nat) < 4096)
  exact ⟨t, by rw [exec_bldTcpAck, he], ht, hc⟩

/-- Settles O44: both segments are within `BUF_CAP`, so the emitter completes. -/
theorem tcpBuildersEmit : Obligations.TcpBuildersEmit := by
  intro s
  obtain ⟨t, he, ht, hc⟩ := bldTcpSyn_emits s
  obtain ⟨hlow, hhigh⟩ := s.drawnPort_bounds
  rw [State.synSegment, mssOption_eq] at hc
  exact ⟨⟨t, s.drawnPort, he, s.drawnPort_toNat, hlow, hhigh, ht, hc⟩, bldTcpAck_emits s⟩

/-! ### CK_IP -/

theorem runAll_cons_of_next {i : Instr} {is : List Instr} {s t : State} (h : exec i s = .next t) :
    runAll (i :: is) s = runAll is t := by
  simp only [runAll, h]

/-- `GET_IP_IHL` of a frame that holds the byte (R213). -/
theorem exec_getIpIhl {s : State} (h : 15 ≤ s.flen) :
    exec .getIpIhl s = .next (s.done (BitVec.ofNat 48 (s.loNibble 14))) := by
  have hin : s.fieldInFrame .ipIhl = true := (State.fieldInFrame_l3 rfl).2 h
  have hget := exec_getInstr .ipIhl s
  rw [getField_eq, if_pos hin] at hget
  exact hget

theorem exec_ckReset (s : State) : exec .ckReset s = .next ((s.withAcc .zero).done 0) := rfl

/-- `CK_ACC` of a region in frame (R153). -/
theorem exec_ckAcc_of_le {off len : Nat} {s : State} (h : off + len ≤ s.flen) :
    exec (.ckAcc off len) s = .next ((s.withAcc (s.acc.bytes (s.bytesAt off len))).done 0) := by
  show execCkAcc off len s = _
  rw [execCkAcc, State.readRegion_of_le h]

theorem exec_ckFinal (s : State) :
    exec .ckFinal s = .next ((s.withAcc s.acc.fold).done (s.acc.checksum.setWidth 48)) := rfl

/-- From a zero accumulator, `CK_ACC` of a region in frame and `CK_FINAL` answer the region's checksum (R153, R155). -/
theorem runAll_ckAcc_ckFinal {off len : Nat} {s : State} (hz : s.acc = .zero) (h : off + len ≤ s.flen) :
    ∃ t, runAll [.ckAcc off len, .ckFinal] s = .next t ∧ t.status = .ok ∧
      t.rdata.toNat = 65535 - onesFold (s.frameSum off len) := by
  have hsum : s.frameSum off len < 4294967296 := by
    have := s.frameSum_le off len
    have := s.flen_lt
    omega
  have hck : (s.acc.bytes (s.bytesAt off len)).checksum = BitVec.ofNat 16 (65535 - onesFold (s.frameSum off len)) := by
    rw [hz, Acc.zero_bytesAt, Acc.checksum_eq, toNat_ofNat_sum hsum]
  rw [runAll_cons_of_next (exec_ckAcc_of_le h), runAll_cons_of_next (exec_ckFinal _)]
  refine ⟨_, rfl, rfl, ?_⟩
  show ((s.acc.bytes (s.bytesAt off len)).checksum.setWidth 48).toNat = _
  rw [hck, BitVec.toNat_setWidth, checksum_toNat]
  omega

/-- The checksum of one region, as three commands (R152, R153, R155): the reset keeps the bytes. -/
theorem runAll_ckRegion {off len : Nat} {s : State} (h : off + len ≤ s.flen) :
    ∃ t, runAll [.ckReset, .ckAcc off len, .ckFinal] s = .next t ∧ t.status = .ok ∧
      t.rdata.toNat = 65535 - onesFold (s.frameSum off len) := by
  rw [runAll_cons_of_next (exec_ckReset s), ← State.frameSum_withAcc .zero, ← State.frameSum_done 0]
  exact runAll_ckAcc_ckFinal rfl h

/-- Settles O23: the GET keeps the frame, and the three checksum commands sum the header. -/
theorem pseudoCkIp : Obligations.PseudoCkIp := by
  intro s n _ h15 hlen
  have hfold := onesFold_le (s.frameSum 14 (4 * n.h))
  obtain ⟨t, hrun, hok, hres⟩ : ∃ t, runAll (.getIpIhl :: PseudoCommand.expand n .ckIp) s = .next t ∧ t.status = .ok ∧
      t.rdata.toNat = 65535 - onesFold (s.frameSum 14 (4 * n.h)) := by
    rw [runAll_cons_of_next (exec_getIpIhl h15), ← State.frameSum_done (BitVec.ofNat 48 (s.loNibble 14))]
    exact runAll_ckRegion hlen
  refine ⟨t, hrun, hok, hres, ?_⟩
  rw [← BitVec.toNat_inj, hres, show (0 : Data).toNat = 0 from rfl]
  omega

end Sys2Proof.Machine
end

section
/-! PROOF. The four checksum commands (R152 to R155), the laws of accumulation and verification that rest on them (R158 to
R160), and the two predicates that verify a checksum (R304, R309). -/

namespace Sys2Proof.Machine

/-! ### CK_RESET and CK_ACC_W16 -/

/-- A 16-bit word from either phase: its two bytes weigh 256 and 1, in the order that the phase says, and the phase is back
where it was (R154). -/
theorem Acc.word_eq (c : Acc) (w : BitVec 16) :
    c.word w =
      ⟨BitVec.ofNat 32 (c.sum.toNat + (if c.phase then w.toNat / 256 + 256 * (w.toNat % 256) else w.toNat)), c.phase⟩ := by
  have hw := w.isLt
  have hhigh : w.toNat / 256 % 256 = w.toNat / 256 := by omega
  have hbytes : beBytes 2 w.toNat = [BitVec.ofNat 8 (w.toNat / 256), BitVec.ofNat 8 w.toNat] := by simp [beBytes]
  rw [Acc.word, Acc.bytes_eq, hbytes]
  cases hp : c.phase with
  | false => simp [weigh, hhigh, Nat.div_add_mod]
  | true => simp [weigh, hhigh]

theorem exec_ckAccW16 (imm : BitVec 16) (s : State) :
    exec (.ckAccW16 imm) s = .next ((s.withAcc (s.acc.word imm)).done 0) := rfl

/-- Settles O18: the immediate's two bytes in closed form. -/
theorem ckResetAndImmediate : Obligations.CkResetAndImmediate := by
  refine ⟨exec_ckReset, fun s imm => ?_⟩
  rw [exec_ckAccW16, Acc.word_eq]
  rfl

/-! ### CK_ACC -/

theorem exec_ckAcc_of_lt {off len : Nat} {s : State} (h : s.flen < off + len) :
    exec (.ckAcc off len) s = .next (s.raise .errBounds) := by
  show execCkAcc off len s = _
  rw [execCkAcc, State.readRegion_of_lt h]

/-- Settles O19: accumulation in closed form, over the bytes of the region. -/
theorem ckAccSums : Obligations.CkAccSums := by
  refine fun s off len => ⟨fun hin => ?_, fun hout => ?_⟩
  · rw [exec_ckAcc_of_le hin, Acc.bytes_eq, weigh_bytesAt, State.bytesAt_length]
    rfl
  · rw [exec_ckAcc_of_lt hout]
    rfl

/-- Two accumulations of adjacent regions in frame are one accumulation of both (R158): the first keeps the bytes and the
frame length, so the second goes on where it stopped. -/
theorem runAll_ckAcc_ckAcc {s : State} {a n m : Nat} (h : a + (n + m) ≤ s.flen) :
    runAll [.ckAcc a n, .ckAcc (a + n) m] s = exec (.ckAcc a (n + m)) s := by
  have hsecond : a + n + m ≤ ((s.withAcc (s.acc.bytes (s.bytesAt a n))).done 0).flen := by
    rw [State.flen_done, State.flen_withAcc]; omega
  rw [runAll_cons_of_next (exec_ckAcc_of_le (by omega)), runAll_cons_of_next (exec_ckAcc_of_le hsecond),
    exec_ckAcc_of_le h, State.bytesAt_add, Acc.bytes_append]
  rfl

/-- Settles O21: the two runs are equal. -/
theorem ckAccSplits : Obligations.CkAccSplits := fun _ _ _ _ _ h => by rw [runAll_ckAcc_ckAcc h]

/-! ### CK_FINAL -/

/-- The checksum on the read-data port (R155). -/
theorem Acc.checksum_setWidth (c : Acc) :
    c.checksum.setWidth 48 = BitVec.ofNat 48 (65535 - onesFold c.sum.toNat) := by
  apply BitVec.eq_of_toNat_eq
  rw [Acc.checksum_eq, BitVec.toNat_setWidth, checksum_toNat, BitVec.toNat_ofNat]

/-- A folded sum folds to itself (R155). -/
theorem Acc.onesFold_fold (c : Acc) : onesFold c.fold.sum.toNat = onesFold c.sum.toNat := by
  have hlt := onesFold_lt c.sum.toNat
  rw [Acc.fold_eq, toNat_ofNat_sum (by omega), onesFold_of_lt hlt]

theorem Acc.fold_fold (c : Acc) : c.fold.fold = c.fold := by
  rw [Acc.fold_eq c.fold, Acc.onesFold_fold, Acc.fold_eq]

theorem Acc.checksum_fold (c : Acc) : c.fold.checksum = c.checksum := by
  rw [Acc.checksum_eq, Acc.onesFold_fold, Acc.checksum_eq]

/-- `CK_FINAL` after `CK_FINAL` changes nothing and answers the same (R155). -/
theorem exec_ckFinal_idem {s t : State} (h : exec .ckFinal s = .next t) : exec .ckFinal t = .next t := by
  rw [exec_ckFinal] at h
  cases h
  have hacc : ((s.withAcc s.acc.fold).done (s.acc.checksum.setWidth 48)).acc = s.acc.fold := rfl
  rw [exec_ckFinal, hacc, Acc.fold_fold, Acc.checksum_fold]
  rfl

/-- Settles O20: the fold in the closed form of R156, and its idempotence. -/
theorem ckFinalFolds : Obligations.CkFinalFolds := by
  refine fun s => ⟨?_, onesFold_le _, fun t u ht hu => ?_⟩
  · rw [exec_ckFinal, Acc.checksum_setWidth, Acc.fold_eq]
    rfl
  · rw [exec_ckFinal_idem ht] at hu
    cases hu
    rfl

/-! ### The round trip of R160 -/

/-- The checksum of one region in frame, as three commands, keeps the frame (R152, R153, R155). -/
theorem runAll_ckRegion_frame {s t : State} {a n : Nat} (h : a + n ≤ s.flen)
    (hrun : runAll [.ckReset, .ckAcc a n, .ckFinal] s = .next t) : t.flen = s.flen ∧ ∀ x, t.byteAt x = s.byteAt x := by
  have hreset : a + n ≤ ((s.withAcc .zero).done 0).flen := h
  rw [runAll_cons_of_next (exec_ckReset s), runAll_cons_of_next (exec_ckAcc_of_le hreset),
    runAll_cons_of_next (exec_ckFinal _)] at hrun
  cases hrun
  exact ⟨rfl, fun _ => rfl⟩

theorem exec_bufWr_of_lt {idx : Nat} (b : Byte) {s : State} (h : idx < Config.bufCap) :
    exec (.bufWr idx b) s = .next (((s.storeBytes idx [b]).clearCls).done 0) := by
  show execBufWr idx b s = _
  rw [execBufWr, if_neg (Nat.not_le.2 h)]

/-- A two-byte number from its bytes (R14). -/
theorem State.memRead_two (s : State) (a : Nat) :
    s.memRead a 2 = 256 * (s.byteAt a).toNat + (s.byteAt (a + 1)).toNat := by
  simp [State.memRead_eq_sum, List.range_succ, Nat.mul_comm]

theorem State.byteAt_storeByte (a : Nat) (b : Byte) (s : State) (x : Nat) :
    (s.storeBytes a [b]).byteAt x = if x = a then b else s.byteAt x := by
  rw [State.byteAt_storeBytes]
  by_cases h : x = a
  · subst h; simp
  · rw [if_neg h, if_neg (by simp; omega)]

/-- Two `BUF_WR` of the bytes of a 16-bit number, high byte first, write the number and keep every other byte and the frame
length (R433). -/
theorem runAll_bufWr_word {a v : Nat} (is : List Instr) (s : State) (ha : a + 1 < Config.bufCap) (hv : v < 65536) :
    ∃ r, runAll (.bufWr a (BitVec.ofNat 8 (v / 256)) :: .bufWr (a + 1) (BitVec.ofNat 8 v) :: is) s = runAll is r ∧
      r.flen = s.flen ∧ r.memRead a 2 = v ∧ ∀ x, ¬ (a ≤ x ∧ x < a + 2) → r.byteAt x = s.byteAt x := by
  rw [runAll_cons_of_next (exec_bufWr_of_lt _ (by omega)), runAll_cons_of_next (exec_bufWr_of_lt _ ha)]
  refine ⟨_, rfl, rfl, ?_, fun x hx => ?_⟩
  · have hhigh : (BitVec.ofNat 8 (v / 256)).toNat = v / 256 := by rw [BitVec.toNat_ofNat]; omega
    have hlow : (BitVec.ofNat 8 v).toNat = v % 256 := BitVec.toNat_ofNat v 8
    simp only [State.memRead_two, State.byteAt_done, State.byteAt_clearCls, State.byteAt_storeByte, if_true,
      if_neg (Nat.ne_of_lt (Nat.lt_succ_self a)), hhigh, hlow]
    omega
  · simp only [State.byteAt_done, State.byteAt_clearCls, State.byteAt_storeByte]
    rw [if_neg (by omega), if_neg (by omega)]

/-- A region whose zero field at an even position was overwritten with the region's checksum verifies (R159, R160). -/
theorem State.onesFold_frameSum_of_field {s r : State} {a k n : Nat} (hk : k % 2 = 0) (hn : k + 2 ≤ n)
    (hzero : s.memRead (a + k) 2 = 0) (hfield : r.memRead (a + k) 2 = 65535 - onesFold (s.frameSum a n))
    (hrest : ∀ x, ¬ (a + k ≤ x ∧ x < a + k + 2) → r.byteAt x = s.byteAt x) :
    onesFold (r.frameSum a n) = 65535 := by
  obtain ⟨m, rfl⟩ : ∃ m, n = k + 2 + m := ⟨n - (k + 2), by omega⟩
  have hbefore : r.frameSum a k = s.frameSum a k := State.frameSum_congr fun j hj => hrest _ (by omega)
  have hafter : r.frameSum (a + k + 2) m = s.frameSum (a + k + 2) m :=
    State.frameSum_congr fun j hj => hrest _ (by omega)
  rw [State.frameSum_skip hk hzero, ← hbefore, ← hafter, ← Nat.zero_add (r.frameSum a k)] at hfield
  have hverifies := State.frameSum_verifies hk hfield
  rwa [Nat.zero_add] at hverifies

/-- Settles O22: the invariant puts the field below `BUF_CAP`, so both writes go through; then the region verifies. -/
theorem ckRoundTrip : Obligations.CkRoundTrip := by
  intro s t u a n k hinv hin hk hn hhigh hlow ht hu
  have hcap : s.flen ≤ Config.bufCap := hinv.frameFits
  have hzero : s.memRead (a + k) 2 = 0 := by rw [State.memRead_two, hhigh, hlow]; rfl
  obtain ⟨hflen, hbytes⟩ := runAll_ckRegion_frame hin ht
  have hck : t.rdata.toNat = 65535 - onesFold (s.frameSum a n) := by
    obtain ⟨t', ht', -, hck⟩ := runAll_ckRegion hin
    cases ht.symm.trans ht'
    exact hck
  obtain ⟨r, hwrites, hrflen, hfield, hrest⟩ := runAll_bufWr_word (a := a + k) [.ckReset, .ckAcc a n, .ckFinal] t
    (by omega) (show t.rdata.toNat < 65536 by omega)
  have hverifies : onesFold (r.frameSum a n) = 65535 :=
    State.onesFold_frameSum_of_field hk hn hzero (hfield.trans hck) fun x hx => (hrest x hx).trans (hbytes x)
  obtain ⟨u', hagain, hok, hres⟩ := runAll_ckRegion (s := r) (off := a) (len := n) (by omega)
  cases hu.symm.trans (hwrites.trans hagain)
  rw [hverifies] at hres
  exact ⟨BitVec.eq_of_toNat_eq hres, hok⟩

/-! ### IS_IP and IS_UDP_VALID -/

/-- `ETH_TYPE` is in frame from 14 bytes on (R101). -/
theorem State.fieldIs_ethType {s : State} {v : Nat} : s.fieldIs .ethType v = true ↔ 14 ≤ s.flen ∧ s.memRead 12 2 = v :=
  State.fieldIs_iff.trans (and_congr_left' (State.fieldInFrame_eth rfl))

/-- `IP_PROTO` is in frame from 24 bytes on (R103). -/
theorem State.fieldIs_ipProto_udp {s : State} : s.fieldIs .ipProto 17 = true ↔ 24 ≤ s.flen ∧ s.byteAt 23 = 17 := by
  have hvalue : s.fieldValue .ipProto = (s.byteAt 23).toNat := s.memRead_one 23
  rw [State.fieldIs_iff, State.fieldInFrame_l3 rfl, hvalue, ← BitVec.toNat_inj]
  exact Iff.rfl

/-- A checksum verifies exactly when the sum folds to 0xFFFF (R159). -/
theorem bit_checksum_eq_zero (n : Nat) :
    bit (some (BitVec.ofNat 16 (65535 - onesFold n)) == some 0) = if onesFold n = 65535 then 1 else 0 := by
  have hle := onesFold_le n
  have hiff : BitVec.ofNat 16 (65535 - onesFold n) = 0 ↔ onesFold n = 65535 := by
    rw [← BitVec.toNat_inj, checksum_toNat, show (0 : BitVec 16).toNat = 0 from rfl]
    omega
  simp only [bit, Option.some_beq_some, beq_iff_eq, hiff]

theorem exec_isIp_of_not {s : State} (h : ¬ (14 ≤ s.flen ∧ s.memRead 12 2 = 0x0800)) :
    exec .isIp s = .next (s.done 0) := by
  show Host.Outcome.next (isIp s).reply = _
  rw [isIp, if_neg (mt State.fieldIs_ethType.1 h)]
  rfl

/-- `IS_IP` of an IPv4 frame is `ck_ip()` (R304). -/
theorem exec_isIp_of_ipv4 {s : State} (h : 14 ≤ s.flen) (htype : s.memRead 12 2 = 0x0800) :
    exec .isIp s = .next ((s.withAcc (ckIp s).acc).done (bit ((ckIp s).result == some 0))) := by
  show Host.Outcome.next (isIp s).reply = _
  rw [isIp, if_pos (State.fieldIs_ethType.2 ⟨h, htype⟩)]
  rfl

/-- Settles O32, by the cases of `ck_ip()`: no header byte, a header cut short, a whole header. -/
theorem isIpVerifiesHeader : Obligations.IsIpVerifiesHeader := by
  intro s
  simp only [show (s.byteAt 14).toNat % 16 = s.loNibble 14 from rfl]
  refine ⟨fun hcause => ?_, fun h15 htype hshort => ?_, fun h15 htype hwhole => ?_⟩
  · by_cases hipv4 : 14 ≤ s.flen ∧ s.memRead 12 2 = 0x0800
    · obtain ⟨h14, htype⟩ := hipv4
      rw [exec_isIp_of_ipv4 h14 htype, ckIp_eq, if_pos (by omega)]
      rfl
    · rw [exec_isIp_of_not hipv4]
      rfl
  · rw [exec_isIp_of_ipv4 (by omega) htype, ckIp_eq, if_neg (by omega), if_pos hshort]
    rfl
  · rw [exec_isIp_of_ipv4 (by omega) htype, ckIp_eq, if_neg (by omega), if_neg (Nat.not_lt.2 hwhole),
      bit_checksum_eq_zero]
    rfl

theorem exec_isUdpValid_of_not {s : State} (h : ¬ (24 ≤ s.flen ∧ s.byteAt 23 = 17)) :
    exec .isUdpValid s = .next (s.done 0) := by
  show Host.Outcome.next (isUdpValid s).reply = _
  rw [isUdpValid, if_neg (mt State.fieldIs_ipProto_udp.1 h)]
  rfl

/-- `IS_UDP_VALID` of a frame with protocol UDP is `ck_udp()` (R309). -/
theorem exec_isUdpValid_of_udp {s : State} (h : 24 ≤ s.flen) (hproto : s.byteAt 23 = 17) :
    exec .isUdpValid s = .next ((s.withAcc (ckUdp s).acc).done (bit ((ckUdp s).result == some 0))) := by
  show Host.Outcome.next (isUdpValid s).reply = _
  rw [isUdpValid, if_pos (State.fieldIs_ipProto_udp.2 ⟨h, hproto⟩)]
  rfl

/-- `ck_udp()` of a datagram with a legal length that is in frame is the pseudo-header and the datagram (R165). -/
theorem ckUdp_of_length {s : State} (hlen : s.l4 + 6 ≤ s.flen) (h8 : 8 ≤ s.memRead (s.l4 + 4) 2) :
    ckUdp s = ckTransport s 0x0011 (s.memRead (s.l4 + 4) 2) := by
  rw [ckUdp_eq, if_neg (by omega)]

/-- Settles O33, by the cases of `ck_udp()`: no legal length, addresses cut short, a datagram cut short, a whole one. -/
theorem isUdpValidVerifiesDatagram : Obligations.IsUdpValidVerifiesDatagram := by
  intro s
  simp only [show 14 + 4 * ((s.byteAt 14).toNat % 16) = s.l4 from rfl]
  have hu : s.memRead (s.l4 + 4) 2 < 65536 := s.memRead_lt (s.l4 + 4) 2
  refine ⟨fun hcause => ?_, fun h24 hproto hlen h8 hshort => ?_, fun h34 hproto hlen h8 hshort => ?_,
    fun h34 hproto h8 hwhole => ?_⟩
  · by_cases hudp : 24 ≤ s.flen ∧ s.byteAt 23 = 17
    · obtain ⟨h24, hproto⟩ := hudp
      have hno : s.flen < s.l4 + 6 ∨ s.memRead (s.l4 + 4) 2 < 8 :=
        hcause.elim (fun h => absurd h24 (by omega)) fun h => h.resolve_left (not_not_intro hproto)
      rw [exec_isUdpValid_of_udp h24 hproto, ckUdp_eq, if_pos hno]
      rfl
    · rw [exec_isUdpValid_of_not hudp]
      rfl
  · rw [exec_isUdpValid_of_udp h24 hproto, ckUdp_of_length hlen h8, ckTransport_eq s _ _ hu, if_pos hshort]
    rfl
  · rw [exec_isUdpValid_of_udp (by omega) hproto, ckUdp_of_length hlen h8, ckTransport_eq s _ _ hu,
      if_neg (by omega), if_pos hshort]
    rfl
  · rw [exec_isUdpValid_of_udp (by omega) hproto, ckUdp_of_length (by omega) h8, ckTransport_eq s _ _ hu,
      if_neg (by omega), if_neg (by omega), bit_checksum_eq_zero]
    rfl

end Sys2Proof.Machine
end

section
/-! PROOF. The parser: what a GET and a PUT of a field answer (R182 to R184), what a GET after a PUT reads (R181, R186), and
the derived quantities (R190 to R194). -/

namespace Sys2Proof.Machine

/-! ### GET -/

theorem exec_getInstr_of_inFrame {f : Field} {s : State} (h : s.fieldInFrame f = true) :
    exec f.getInstr s = .next (s.done (BitVec.ofNat 48 (s.fieldValue f))) := by
  rw [exec_getInstr, getField_eq, if_pos h]

theorem exec_getInstr_of_not {f : Field} {s : State} (h : ¬ s.fieldInFrame f = true) :
    exec f.getInstr s = .next (s.raise .errBounds) := by
  rw [exec_getInstr, getField_eq, if_neg h]

section
variable {f : Field}

theorem State.fieldValue_bytes {w : Nat} (h : (fieldDesc f).shape = .bytes w) (s : State) :
    s.fieldValue f = s.memRead (s.fieldAddr f) w := by
  simp only [State.fieldValue, h]

theorem State.fieldValue_hi (h : (fieldDesc f).shape = .hi) (s : State) :
    s.fieldValue f = (s.byteAt (s.fieldAddr f)).toNat / 16 := by
  simp only [State.fieldValue, h, State.hiNibble]

theorem State.fieldValue_lo (h : (fieldDesc f).shape = .lo) (s : State) :
    s.fieldValue f = (s.byteAt (s.fieldAddr f)).toNat % 16 := by
  simp only [State.fieldValue, h, State.loNibble]

end

/-- Settles O27, by whether the field is in frame, and there by its shape. -/
theorem getReadsField : Obligations.GetReadsField := by
  intro f s
  constructor
  · intro hin
    have hget := exec_getInstr_of_inFrame (State.fieldInFrame_iff.2 hin)
    refine ⟨fun w hw => ?_, fun hhi => ?_, fun hlo => ?_⟩
    · rw [hget, State.fieldValue_bytes hw]; rfl
    · rw [hget, State.fieldValue_hi hhi]; rfl
    · rw [hget, State.fieldValue_lo hlo]; rfl
  · intro hout
    exact exec_getInstr_of_not fun hin => hout (State.fieldInFrame_iff.1 hin)

/-! ### PUT -/

section
variable {f : Field} {s : State}

theorem exec_putInstr_of_wide (h : 2 ^ fieldBits f ≤ s.wdata.toNat) :
    exec f.putInstr s = .next (s.raise .errArg) := by
  rw [exec_putInstr, putField, if_pos h]

theorem exec_putInstr_of_inFrame (hv : s.wdata.toNat < 2 ^ fieldBits f) (h : s.fieldInFrame f = true) :
    exec f.putInstr s = .next ((s.storeField f s.wdata.toNat).clearCls.done 0) := by
  rw [exec_putInstr, putField, if_neg (Nat.not_le.2 hv), if_pos h]

theorem exec_putInstr_of_not (hv : s.wdata.toNat < 2 ^ fieldBits f) (h : ¬ s.fieldInFrame f = true) :
    exec f.putInstr s = .next (s.raise .errBounds) := by
  rw [exec_putInstr, putField, if_neg (Nat.not_le.2 hv), if_neg h]

/-- A PUT that ended well has passed both checks and has written (R183, R184). -/
theorem exec_putInstr_ok {t : State} (h : exec f.putInstr s = .next t) (hok : t.status = .ok) :
    s.wdata.toNat < 2 ^ fieldBits f ∧ s.fieldInFrame f = true ∧
      t = (s.storeField f s.wdata.toNat).clearCls.done 0 := by
  by_cases hv : s.wdata.toNat < 2 ^ fieldBits f
  · by_cases hin : s.fieldInFrame f = true
    · rw [exec_putInstr_of_inFrame hv hin] at h
      exact ⟨hv, hin, (Host.Outcome.next.inj h).symm⟩
    · rw [exec_putInstr_of_not hv hin] at h
      cases h; cases hok
  · rw [exec_putInstr_of_wide (Nat.not_lt.1 hv)] at h
    cases h; cases hok

theorem State.storeField_bytes {w : Nat} (h : (fieldDesc f).shape = .bytes w) (v : Nat) (s : State) :
    s.storeField f v = s.memWrite (s.fieldAddr f) w v := by
  simp only [State.storeField, h]

theorem State.byteAt_storeBytes_singleton (a : Nat) (b : Byte) (s : State) : (s.storeBytes a [b]).byteAt a = b := by
  simp [State.byteAt_storeBytes]

/-- A store of a high nibble keeps the low one (R81, R183). -/
theorem State.toNat_byteAt_storeField_hi (h : (fieldDesc f).shape = .hi) {v : Nat} (hv : v < 16) (s : State) :
    ((s.storeField f v).byteAt (s.fieldAddr f)).toNat = 16 * v + (s.byteAt (s.fieldAddr f)).toNat % 16 := by
  simp only [State.storeField, h, State.byteAt_storeBytes_singleton, State.loNibble, BitVec.toNat_ofNat]
  omega

/-- A store of a low nibble keeps the high one (R81, R183). -/
theorem State.toNat_byteAt_storeField_lo (h : (fieldDesc f).shape = .lo) {v : Nat} (hv : v < 16) (s : State) :
    ((s.storeField f v).byteAt (s.fieldAddr f)).toNat = 16 * ((s.byteAt (s.fieldAddr f)).toNat / 16) + v := by
  have hb := (s.byteAt (s.fieldAddr f)).isLt
  simp only [State.storeField, h, State.byteAt_storeBytes_singleton, State.hiNibble, BitVec.toNat_ofNat]
  omega

theorem fieldBits_hi (h : (fieldDesc f).shape = .hi) : 2 ^ fieldBits f = 16 := by rw [fieldBits, h]; rfl

theorem fieldBits_lo (h : (fieldDesc f).shape = .lo) : 2 ^ fieldBits f = 16 := by rw [fieldBits, h]; rfl

theorem fieldBits_bytes {w : Nat} (h : (fieldDesc f).shape = .bytes w) : 2 ^ fieldBits f = 256 ^ w := by
  rw [fieldBits, h, Shape.bits, pow_mul, show (2 : Nat) ^ 8 = 256 from rfl]

end

/-- Settles O28: the width is checked first, then the frame; the write is by the field's shape. -/
theorem putWritesField : Obligations.PutWritesField := by
  intro f s
  refine ⟨fun hv hbase hle => ?_, fun hwide => exec_putInstr_of_wide hwide,
    fun hv hout => exec_putInstr_of_not hv fun hin => hout (State.fieldInFrame_iff.1 hin)⟩
  refine ⟨_, exec_putInstr_of_inFrame hv (State.fieldInFrame_iff.2 ⟨hbase, hle⟩), ?_, fun w k hw hk => ?_,
    fun hhi => ?_, fun hlo => ?_, fun x hx => ?_⟩
  · rw [State.storeField_eq]; rfl
  · rw [State.byteAt_done, State.byteAt_clearCls, State.storeField_bytes hw, State.byteAt_memWrite_of_mem]
    · simp only [State.fieldAddr, Nat.add_sub_cancel_left]
    · simp only [State.fieldAddr]; omega
  · exact State.toNat_byteAt_storeField_hi hhi (fieldBits_hi hhi ▸ hv) s
  · exact State.toNat_byteAt_storeField_lo hlo (fieldBits_lo hlo ▸ hv) s
  · exact State.byteAt_storeField_of_not hx

/-! ### GET after PUT -/

/-- The byte at `x` is one that locates the base: byte 14 for `L4` and `PL`, byte `L4` + 12 for `PL` (R181). -/
def State.locates (s : State) (x : Nat) (b : Base) : Prop := (b = .l4 ∨ b = .pl) ∧ x = 14 ∨ b = .pl ∧ x = s.l4 + 12

section
variable {s t : State} {b : Base}

/-- A base is where it was when the bytes that locate it are what they were (R181). -/
theorem State.baseAddr_congr (h : ∀ x, s.locates x b → s.byteAt x = t.byteAt x) : s.baseAddr b = t.baseAddr b := by
  cases b with
  | eth => rfl
  | l3 => rfl
  | l4 => exact State.l4_congr (h 14 (.inl ⟨.inl rfl, rfl⟩))
  | pl => exact State.pl_congr (h 14 (.inl ⟨.inr rfl, rfl⟩)) (h _ (.inr ⟨rfl, rfl⟩))

/-- A base resolves as before when, besides, the frame is as long as it was (R181). -/
theorem State.baseInFrame_congr (hlen : s.flen = t.flen) (h : ∀ x, s.locates x b → s.byteAt x = t.byteAt x) :
    s.baseInFrame b = t.baseInFrame b := by
  cases b with
  | eth => rfl
  | l3 => rfl
  | l4 => simp only [State.baseInFrame, State.l4InFrame, hlen]
  | pl =>
    have hl4 : s.l4 = t.l4 := State.l4_congr (h 14 (.inl ⟨.inr rfl, rfl⟩))
    simp only [State.baseInFrame, State.plInFrame, State.l4InFrame, hlen, hl4]

end

section
variable {f : Field} {s : State}

/-- A stored field that is found where it was written holds the value written (R186). -/
theorem State.fieldValue_storeField {v : Nat} (hv : v < 2 ^ fieldBits f)
    (haddr : (s.storeField f v).fieldAddr f = s.fieldAddr f) : (s.storeField f v).fieldValue f = v := by
  cases hs : (fieldDesc f).shape with
  | bytes w =>
    rw [State.fieldValue_bytes hs, haddr, State.storeField_bytes hs,
      State.memRead_memWrite _ _ _ (fieldBits_bytes hs ▸ hv)]
  | hi =>
    have hv16 : v < 16 := fieldBits_hi hs ▸ hv
    rw [State.fieldValue_hi hs, haddr, State.toNat_byteAt_storeField_hi hs hv16]
    omega
  | lo =>
    have hv16 : v < 16 := fieldBits_lo hs ▸ hv
    rw [State.fieldValue_lo hs, haddr, State.toNat_byteAt_storeField_lo hs hv16]
    omega

/-- Storing a field in frame that covers no byte of its own base leaves it in frame, with the value written. -/
theorem State.readField_storeField {v : Nat} (hv : v < 2 ^ fieldBits f) (hin : s.fieldInFrame f = true)
    (hmiss : ∀ x, s.locates x (fieldDesc f).base → ¬ (s.fieldAddr f ≤ x ∧ x < s.fieldAddr f + fieldBytes f)) :
    (s.storeField f v).readField f = some v := by
  have hkept : ∀ x, s.locates x (fieldDesc f).base → s.byteAt x = (s.storeField f v).byteAt x :=
    fun x hx => (State.byteAt_storeField_of_not (hmiss x hx)).symm
  have haddr : (s.storeField f v).fieldAddr f = s.fieldAddr f := by
    rw [State.fieldAddr, State.fieldAddr, State.baseAddr_congr hkept]
  obtain ⟨hbase, hle⟩ := State.fieldInFrame_iff.1 hin
  refine State.readField_eq_some.2 ⟨State.fieldInFrame_iff.2 ⟨?_, ?_⟩, State.fieldValue_storeField hv haddr⟩
  · rwa [← State.baseInFrame_congr (State.flen_storeField f v s).symm hkept]
  · rwa [haddr, State.flen_storeField]

end

/-- Settles O29: the premises say that the write misses the bytes that locate the field, so the GET finds it again. -/
theorem putThenGet : Obligations.PutThenGet := by
  intro f s t u d a h14 hdoff hput hok hget
  obtain ⟨hv, hin, rfl⟩ := exec_putInstr_ok hput hok
  have hmiss : ∀ x, s.locates x d.base → ¬ (a ≤ x ∧ x < a + d.shape.bytesTouched) := by
    rintro x (⟨hb, rfl⟩ | ⟨hb, rfl⟩)
    · have := h14 hb
      omega
    · exact hdoff hb
  obtain ⟨hinframe, hvalue⟩ := State.readField_eq_some.1 (State.readField_storeField hv hin hmiss)
  obtain rfl := Host.Outcome.next.inj (hget.symm.trans (exec_getInstr_of_inFrame hinframe))
  refine ⟨?_, rfl⟩
  show BitVec.ofNat 48 ((s.storeField f s.wdata.toNat).fieldValue f) = s.wdata
  rw [hvalue, BitVec.ofNat_toNat, BitVec.setWidth_eq]

/-! ### Derived quantities -/

theorem State.loNibble_eq (s : State) (a : Nat) : s.loNibble a = (s.byteAt a).toNat % 16 := rfl

theorem State.hiNibble_eq (s : State) (a : Nat) : s.hiNibble a = (s.byteAt a).toNat / 16 := rfl

theorem exec_getLocL4 (s : State) :
    exec .getLocL4 s = .next (if 15 ≤ s.flen then s.done (BitVec.ofNat 48 s.l4) else s.raise .errBounds) := by
  show execGetLocL4 s = _
  simp only [execGetLocL4, State.l4InFrame_iff]

/-- The byte that locates `L4` lies before the one that locates `PL`, so the latter's check is enough (R191). -/
theorem exec_getLocPl (s : State) :
    exec .getLocPl s = .next (if s.l4 + 13 ≤ s.flen then s.done (BitVec.ofNat 48 s.pl) else s.raise .errBounds) := by
  have hl4 := s.l4_ge
  have hiff : s.plInFrame = true ↔ s.l4 + 13 ≤ s.flen := by rw [State.plInFrame_iff]; omega
  show execGetLocPl s = _
  simp only [execGetLocPl, hiff]

/-- How the three length commands end (R192 to R194): what is left of `total` without `headers`, `ERR_ARG` where that is
negative, `ERR_BOUNDS` where a byte needed is not in frame. -/
def State.answerLength (inFrame : Prop) [Decidable inFrame] (total headers : Nat) (s : State) : State :=
  if inFrame then
    if total < headers then s.raise .errArg else s.done (BitVec.ofNat 48 (total - headers))
  else s.raise .errBounds

section
variable {inFrame : Prop} [Decidable inFrame] {total headers : Nat} {s : State}

theorem State.answerLength_of_le (hin : inFrame) (h : headers ≤ total) :
    s.answerLength inFrame total headers = s.done (BitVec.ofNat 48 (total - headers)) := by
  rw [State.answerLength, if_pos hin, if_neg (Nat.not_lt.2 h)]

theorem State.answerLength_of_lt (hin : inFrame) (h : total < headers) :
    s.answerLength inFrame total headers = s.raise .errArg := by
  rw [State.answerLength, if_pos hin, if_pos h]

theorem State.answerLength_of_not (hout : ¬ inFrame) : s.answerLength inFrame total headers = s.raise .errBounds := by
  rw [State.answerLength, if_neg hout]

end

/-- The integer `TPL` of R111 as a difference of natural numbers, checked before it is taken. -/
theorem exec_getLenTpl (s : State) :
    exec .getLenTpl s =
      .next (s.answerLength (s.l4 + 13 ≤ s.flen) (s.memRead 16 2)
        (4 * s.loNibble 14 + 4 * s.hiNibble (s.l4 + 12))) := by
  show execGetLenTpl s = _
  rw [execGetLenTpl, State.tcpPayloadLen_eq]
  by_cases hin : s.l4 + 13 ≤ s.flen
  · rw [if_pos hin]
    by_cases hlt : s.memRead 16 2 < 4 * s.loNibble 14 + 4 * s.hiNibble (s.l4 + 12)
    · rw [State.answerLength_of_lt hin hlt]
      simp only
      rw [if_pos (by omega)]
    · rw [State.answerLength_of_le hin (Nat.not_lt.1 hlt)]
      simp only
      rw [if_neg (by omega)]
      congr 3
      omega
  · rw [if_neg hin, State.answerLength_of_not hin]

theorem exec_getLenUdppl (s : State) :
    exec .getLenUdppl s = .next (s.answerLength (s.l4 + 6 ≤ s.flen) (s.memRead (s.l4 + 4) 2) 8) := by
  show execGetLenUdppl s = _
  rw [execGetLenUdppl, State.readField_udpLen, State.answerLength]
  by_cases hin : s.l4 + 6 ≤ s.flen
  · rw [if_pos hin, if_pos hin]
  · rw [if_neg hin, if_neg hin]

/-- The byte of `IP_IHL` lies before those of `IP_LEN`, so the latter's check is enough (R194). -/
theorem exec_getLenIcmpdata (s : State) :
    exec .getLenIcmpdata s = .next (s.answerLength (18 ≤ s.flen) (s.memRead 16 2) (4 * s.loNibble 14 + 8)) := by
  show execGetLenIcmpdata s = _
  rw [execGetLenIcmpdata, State.readField_ipLen, State.readField_ipIhl, State.answerLength]
  by_cases hin : 18 ≤ s.flen
  · rw [if_pos hin, if_pos hin, if_pos (by omega), ← Nat.sub_sub]
  · rw [if_neg hin, if_neg hin]

/-- Settles O30: each quantity in closed form, in the cases of its frame check and its range check. -/
theorem derivedQuantities : Obligations.DerivedQuantities := by
  intro s
  have hl4 := s.l4_ge
  simp only [← State.loNibble_eq, ← State.hiNibble_eq, show 14 + 4 * s.loNibble 14 = s.l4 from rfl]
  rw [exec_getLocL4, exec_getLocPl, exec_getLenTpl, exec_getLenUdppl, exec_getLenIcmpdata]
  refine ⟨fun hin => ?_, fun hout => ?_, fun hin => ?_, fun hout => ?_,
    fun hin hle => ?_, fun hin hlt => ?_, fun hout => ?_,
    fun hin hle => ?_, fun hin hlt => ?_, fun hout => ?_,
    fun hin hle => ?_, fun hin hlt => ?_, fun hout => ?_⟩
  · rw [if_pos hin]; rfl
  · rw [if_neg (by omega)]; rfl
  · rw [if_pos hin]; rfl
  · rw [if_neg (by omega)]; rfl
  · rw [State.answerLength_of_le hin hle, Nat.sub_sub]; rfl
  · rw [State.answerLength_of_lt hin hlt]; rfl
  · rw [State.answerLength_of_not (by omega)]; rfl
  · rw [State.answerLength_of_le hin hle]; rfl
  · rw [State.answerLength_of_lt hin hlt]; rfl
  · rw [State.answerLength_of_not (by omega)]; rfl
  · rw [State.answerLength_of_le hin hle, Nat.sub_sub]; rfl
  · rw [State.answerLength_of_lt hin hlt]; rfl
  · rw [State.answerLength_of_not (by omega)]; rfl

end Sys2Proof.Machine
end

section
/-! PROOF. The classifier's predicates (R305 to R308, R310 to R317): which bytes each compares, and what the event latch takes
from the frame (R320). -/

namespace Sys2Proof.Machine

/-- A one-bit result by what the bit says (R16). -/
theorem bit_of_iff {b : Bool} {p : Prop} [Decidable p] (h : b = true ↔ p) : bit b = if p then 1 else 0 := by
  simp only [bit, h]

/-! ### The fields the predicates compare -/

section
variable {s : State} {v : Nat}

theorem State.fieldIs_byte {f : Field} (h : (fieldDesc f).shape = .bytes 1) :
    s.fieldIs f v = true ↔ s.fieldInFrame f = true ∧ (s.byteAt (s.fieldAddr f)).toNat = v := by
  rw [State.fieldIs_iff, State.fieldValue_bytes h, State.memRead_one]

theorem State.fieldIs_ipDst : s.fieldIs .ipDst v = true ↔ 34 ≤ s.flen ∧ s.memRead 30 4 = v :=
  State.fieldIs_iff.trans (and_congr_left' (State.fieldInFrame_l3 rfl))

theorem State.fieldIs_arpTpa : s.fieldIs .arpTpa v = true ↔ 42 ≤ s.flen ∧ s.memRead 38 4 = v :=
  State.fieldIs_iff.trans (and_congr_left' (State.fieldInFrame_l3 rfl))

theorem State.fieldIs_arpOper : s.fieldIs .arpOper v = true ↔ 22 ≤ s.flen ∧ s.memRead 20 2 = v :=
  State.fieldIs_iff.trans (and_congr_left' (State.fieldInFrame_l3 rfl))

theorem State.fieldIs_ipProto : s.fieldIs .ipProto v = true ↔ 24 ≤ s.flen ∧ (s.byteAt 23).toNat = v :=
  (State.fieldIs_byte rfl).trans (and_congr_left' (State.fieldInFrame_l3 rfl))

theorem State.fieldIs_icmpType : s.fieldIs .icmpType v = true ↔ s.l4 + 1 ≤ s.flen ∧ (s.byteAt s.l4).toNat = v :=
  (State.fieldIs_byte rfl).trans (and_congr_left' (State.fieldInFrame_l4 rfl))

theorem State.fieldIs_tcpFlags : s.fieldIs .tcpFlags v = true ↔ s.l4 + 14 ≤ s.flen ∧ (s.byteAt (s.l4 + 13)).toNat = v :=
  (State.fieldIs_byte rfl).trans (and_congr_left' (State.fieldInFrame_l4 rfl))

theorem State.fieldIs_mqttCtrl :
    s.fieldIs .mqttCtrl v = true ↔ (s.l4 + 13 ≤ s.flen ∧ s.pl + 1 ≤ s.flen) ∧ (s.byteAt s.pl).toNat = v :=
  (State.fieldIs_byte rfl).trans (and_congr_left' (State.fieldInFrame_pl rfl))

/-- `ARP_TPA` is the last of the three fields in the frame, so its check is enough (R306). -/
theorem isArpReq_holds_iff :
    (isArpReq s).holds = true ↔
      42 ≤ s.flen ∧ s.memRead 12 2 = 0x0806 ∧ s.memRead 38 4 = s.localIp.toNat ∧ s.memRead 20 2 = 1 := by
  simp only [isArpReq, Bool.and_eq_true, State.fieldIs_ethType, State.fieldIs_arpTpa, State.fieldIs_arpOper]
  omega

theorem isTcp_holds_iff : (isTcp s).holds = true ↔ 24 ≤ s.flen ∧ s.byteAt 23 = 6 := by
  rw [← BitVec.toNat_inj]
  exact State.fieldIs_ipProto

theorem isPingReq_holds_iff :
    (isPingReq s).holds = true ↔ 24 ≤ s.flen ∧ s.byteAt 23 = 1 ∧ s.l4 + 1 ≤ s.flen ∧ s.byteAt s.l4 = 8 := by
  rw [← BitVec.toNat_inj, ← BitVec.toNat_inj, ← and_assoc, isPingReq, Bool.and_eq_true]
  exact and_congr State.fieldIs_ipProto State.fieldIs_icmpType

end

/-- Settles O31: each of the four replies with the bit that its comparison gives, and writes nothing else. -/
theorem comparingPredicates : Obligations.ComparingPredicates := by
  intro s
  have hreply : ∀ {b : Bool} {p : Prop} [Decidable p], (b = true ↔ p) →
      Host.Outcome.next (Answer.reply ⟨s, b⟩) = (.next (s.done (if p then 1 else 0)) : Host.Outcome State Fault Refusal) :=
    fun h => by rw [Answer.reply, bit_of_iff h]
  exact ⟨hreply State.fieldIs_ipDst, hreply isArpReq_holds_iff, hreply isTcp_holds_iff, hreply isPingReq_holds_iff⟩

/-! ### The event latch -/

/-- What the latch takes from a frame (R320). -/
def State.frameLatch (s : State) : Latch where
  seq := BitVec.ofNat 32 (s.memRead (s.l4 + 4) 4)
  ack := BitVec.ofNat 32 (s.memRead (s.l4 + 8) 4)
  consumed := BitVec.ofNat 32
    (s.memRead 16 2 - 4 * s.loNibble 14 - 4 * s.hiNibble (s.l4 + 12) + flagLength (s.byteAt (s.l4 + 13)).toNat)
  sport := BitVec.ofNat 16 (s.memRead s.l4 2)
  dport := BitVec.ofNat 16 (s.memRead (s.l4 + 2) 2)

/-- `latch()`, all it can do: false for a frame cut short before its flags end, and for a negative payload length (R320). -/
theorem State.latchOf_eq (s : State) :
    s.latchOf =
      if s.l4 + 14 ≤ s.flen ∧ 4 * s.loNibble 14 + 4 * s.hiNibble (s.l4 + 12) ≤ s.memRead 16 2 then some s.frameLatch
      else none := by
  have hl4 := s.l4_ge
  have hflags : s.fieldValue .tcpFlags = (s.byteAt (s.l4 + 13)).toNat := s.memRead_one _
  have hbounds : (s.l4InFrame && decide (s.l4 + 14 ≤ s.flen)) = true ↔ s.l4 + 14 ≤ s.flen := by
    rw [Bool.and_eq_true, State.l4InFrame_iff, decide_eq_true_iff]
    omega
  by_cases hin : s.l4 + 14 ≤ s.flen
  · rw [State.latchOf, if_pos (hbounds.2 hin), State.tcpPayloadLen_eq, if_pos (by omega), hflags]
    by_cases hlen : 4 * s.loNibble 14 + 4 * s.hiNibble (s.l4 + 12) ≤ s.memRead 16 2
    · have hnat : ((s.memRead 16 2 : Int) - 4 * s.loNibble 14 - 4 * s.hiNibble (s.l4 + 12)).toNat =
          s.memRead 16 2 - 4 * s.loNibble 14 - 4 * s.hiNibble (s.l4 + 12) := by omega
      dsimp only
      rw [if_neg (by omega), if_pos ⟨hin, hlen⟩, hnat]
      rfl
    · dsimp only
      rw [if_pos (by omega), if_neg fun h => hlen h.2]
  · rw [State.latchOf, if_neg (mt hbounds.1 hin), if_neg fun h => hin h.1]

section
variable {s : State} {b : Bool}

theorem latchIf_of_latchOf {l : Latch} (hb : b = true) (hl : s.latchOf = some l) : latchIf b s = ⟨s.setLatch l, true⟩ := by
  rw [latchIf, if_pos hb, hl]

theorem latchIf_of_not (h : ¬ (b = true ∧ s.latchOf.isSome = true)) : latchIf b s = ⟨s, false⟩ := by
  unfold latchIf
  split
  · next hb =>
    cases hl : s.latchOf with
    | none => rfl
    | some l => exact absurd ⟨hb, by rw [hl]; rfl⟩ h
  · rfl

theorem State.latchOf_isSome :
    s.latchOf.isSome = true ↔
      s.l4 + 14 ≤ s.flen ∧ 4 * s.loNibble 14 + 4 * s.hiNibble (s.l4 + 12) ≤ s.memRead 16 2 := by
  rw [State.latchOf_eq]
  split
  · next h => exact iff_of_true rfl h
  · next h => exact iff_of_false Bool.false_ne_true h

theorem State.latchOf_of_isSome (h : s.latchOf.isSome = true) : s.latchOf = some s.frameLatch := by
  rw [State.latchOf_eq, if_pos (State.latchOf_isSome.1 h)]

/-- How a TCP-event predicate ends, by a condition that says when its comparison and the latch succeed (R310 to R317). -/
theorem latchIf_reply {p : Prop} (h : (b = true ∧ s.latchOf.isSome = true) ↔ p) :
    (p → (latchIf b s).reply = (s.setLatch s.frameLatch).done 1) ∧ (¬ p → (latchIf b s).reply = s.done 0) := by
  refine ⟨fun hp => ?_, fun hp => ?_⟩
  · obtain ⟨hb, hl⟩ := h.2 hp
    rw [latchIf_of_latchOf hb (State.latchOf_of_isSome hl)]
    rfl
  · rw [latchIf_of_not (mt h.1 hp)]
    rfl

end

/-! ### The flag predicates and the MQTT reply predicates -/

theorem flagCommands_run :
    ∀ x ∈ [(Instr.isSynack, 0x12), (.isAck, 0x10), (.isPshack, 0x18), (.isFinack, 0x11)],
      ∀ s, exec x.1 s = .next (flagsAre x.2 s).reply := by
  simp only [List.forall_mem_cons]
  exact ⟨fun _ => rfl, fun _ => rfl, fun _ => rfl, fun _ => rfl, nofun⟩

theorem mqttCommands_run :
    ∀ x ∈ [(Instr.isConnack, 0x20), (.isPubsuback, 0x90), (.isUnsuback, 0xB0), (.isPingresp, 0xD0)],
      ∀ s, exec x.1 s = .next (mqttReplyIs x.2 s).reply := by
  simp only [List.forall_mem_cons]
  exact ⟨fun _ => rfl, fun _ => rfl, fun _ => rfl, fun _ => rfl, nofun⟩

/-- Settles O34: the flag byte is the last that the latch needs, so a true comparison leaves only the payload length to check. -/
theorem flagPredicatesLatch : Obligations.FlagPredicatesLatch := by
  intro i v s hiv
  simp only [← State.loNibble_eq, ← State.hiNibble_eq, show 14 + 4 * s.loNibble 14 = s.l4 from rfl]
  have htest : (s.fieldIs .tcpFlags v = true ∧ s.latchOf.isSome = true) ↔
      s.l4 + 14 ≤ s.flen ∧ (s.byteAt (s.l4 + 13)).toNat = v ∧
        4 * s.loNibble 14 + 4 * s.hiNibble (s.l4 + 12) ≤ s.memRead 16 2 := by
    rw [State.fieldIs_tcpFlags, State.latchOf_isSome]
    omega
  obtain ⟨hlatch, hkeep⟩ := latchIf_reply htest
  rw [flagCommands_run (i, v) hiv s]
  refine ⟨fun htrue => ?_, fun hfalse => congrArg _ (hkeep hfalse)⟩
  obtain ⟨hin, hvalue, hlen⟩ := htrue
  rw [flagsAre, hlatch ⟨hin, hvalue, hlen⟩, ← hvalue]
  rfl

/-- The comparison of an MQTT reply predicate: a payload, and its first byte (R314). -/
theorem mqttReplyIs_eq_latchIf (v : Nat) (s : State) :
    ∃ b, mqttReplyIs v s = latchIf b s ∧
      (b = true ↔ s.l4 + 13 ≤ s.flen ∧ 4 * s.loNibble 14 + 4 * s.hiNibble (s.l4 + 12) + 1 ≤ s.memRead 16 2 ∧
        s.pl + 1 ≤ s.flen ∧ (s.byteAt s.pl).toNat = v) := by
  refine ⟨_, rfl, ?_⟩
  rw [State.tcpPayloadLen_eq]
  by_cases hin : s.l4 + 13 ≤ s.flen
  · rw [if_pos hin]
    simp only [Bool.and_eq_true, decide_eq_true_iff, State.fieldIs_mqttCtrl]
    omega
  · rw [if_neg hin]
    exact iff_of_false Bool.false_ne_true fun h => hin h.1

/-- Settles O35: a payload byte in frame leaves only the flag byte to check, and a payload is no negative length. -/
theorem mqttPredicatesLatch : Obligations.MqttPredicatesLatch := by
  intro i v s hiv
  simp only [← State.loNibble_eq, ← State.hiNibble_eq, show 14 + 4 * s.loNibble 14 = s.l4 from rfl,
    show s.l4 + 4 * s.hiNibble (s.l4 + 12) = s.pl from rfl]
  obtain ⟨b, hb, hiff⟩ := mqttReplyIs_eq_latchIf v s
  have htest : (b = true ∧ s.latchOf.isSome = true) ↔
      s.l4 + 14 ≤ s.flen ∧ 4 * s.loNibble 14 + 4 * s.hiNibble (s.l4 + 12) + 1 ≤ s.memRead 16 2 ∧
        s.pl + 1 ≤ s.flen ∧ (s.byteAt s.pl).toNat = v := by
    rw [hiff, State.latchOf_isSome]
    omega
  obtain ⟨hlatch, hkeep⟩ := latchIf_reply htest
  have hflags : ∀ b : Byte, flagLength b.toNat = if b = 0x12 ∨ b = 0x11 then 1 else 0 := fun b => by
    simp only [flagLength, ← BitVec.toNat_inj]
    rfl
  rw [mqttCommands_run (i, v) hiv s, hb]
  refine ⟨fun htrue => ?_, fun hfalse => congrArg _ (hkeep hfalse)⟩
  rw [← hflags]
  exact congrArg _ (hlatch htrue)

end Sys2Proof.Machine
end

section
/-! PROOF. CLASSIFY in closed form (R318): the fourteen answers are functions of the frame and `local_ip`, and the accumulator,
the latch and `cls` are all that it writes. -/

namespace Sys2Proof.Machine

/-! ### What a classifier records -/

/-- What a classifier writes: an accumulator (R326), an event latch (R320), a classification (R318), each of them or not. -/
structure Findings where
  /-- For `sum` and `phase`. -/
  acc : Option Acc := none
  /-- For the event latch. -/
  latch : Option Latch := none
  /-- For `cls`, which is then fresh. -/
  cls : Option (BitVec 14) := none

/-- Write what there is to write, and leave the rest. -/
def State.record (w : Findings) (s : State) : State :=
  { (s.withAcc (w.acc.getD s.acc)).setLatch (w.latch.getD s.latched) with
    cls := w.cls.getD s.cls, clsFresh := w.cls.isSome || s.clsFresh }

@[simp] theorem State.acc_record (w : Findings) (s : State) : (s.record w).acc = w.acc.getD s.acc := rfl

@[simp] theorem State.latched_record (w : Findings) (s : State) : (s.record w).latched = w.latch.getD s.latched := rfl

@[simp] theorem State.acc_done (v : Data) (s : State) : (s.done v).acc = s.acc := rfl

@[simp] theorem State.latched_done (v : Data) (s : State) : (s.done v).latched = s.latched := rfl

/-- The second of two findings prevails where both write. -/
theorem State.record_record (w x : Findings) (s : State) :
    (s.record w).record x = s.record ⟨x.acc.or w.acc, x.latch.or w.latch, x.cls.or w.cls⟩ := by
  obtain ⟨a, l, c⟩ := w
  obtain ⟨a', l', c'⟩ := x
  simp only [State.record, Option.getD_or, Option.isSome_or, Bool.or_assoc]
  rfl

theorem State.latched_eq_iff {s t : State} :
    s.latched = t.latched ↔
      s.peerSeq = t.peerSeq ∧ s.peerAck = t.peerAck ∧ s.consumedLen = t.consumedLen ∧ s.lastSport = t.lastSport ∧
        s.lastDport = t.lastDport := by
  simp only [State.latched, Latch.mk.injEq]

theorem State.acc_eq_iff {s t : State} : s.acc = t.acc ↔ s.sum = t.sum ∧ s.phase = t.phase := by
  simp only [State.acc, Acc.mk.injEq]

theorem SameFrame.refl (s : State) : SameFrame s s := ⟨rfl, rfl, fun _ _ => rfl⟩

theorem SameFrame.record {s t : State} (h : SameFrame s t) (w : Findings) : SameFrame s (t.record w) :=
  ⟨h.frameLen, h.localIp, h.bytes⟩

theorem SameFrame.done {s t : State} (h : SameFrame s t) (v : Data) : SameFrame s (t.done v) :=
  ⟨h.frameLen, h.localIp, h.bytes⟩

/-! ### What each predicate records -/

/-- The accumulator that `IS_IP` leaves, where it starts to sum (R326). -/
def State.headerAcc (s : State) : Option Acc :=
  if s.fieldIs .ethType 0x0800 then (s.readField .ipIhl).map fun h => (ckLast s 14 (4 * h) .zero).acc else none

/-- The accumulator that `IS_UDP_VALID` leaves, where it starts to sum (R326). -/
def State.datagramAcc (s : State) : Option Acc :=
  if s.fieldIs .ipProto 17 then
    (s.readField .udpLen).bind fun u => if u < 8 then none else some (ckTransport s 0x0011 u).acc
  else none

theorem isIp_record (s : State) : (isIp s).state = s.record { acc := s.headerAcc } := by
  have hacc : (ckIp s).acc = ((s.readField .ipIhl).map fun h => (ckLast s 14 (4 * h) .zero).acc).getD s.acc := by
    rw [ckIp]
    cases s.readField .ipIhl <;> rfl
  rw [isIp, State.headerAcc, hacc]
  split <;> rfl

theorem isUdpValid_record (s : State) : (isUdpValid s).state = s.record { acc := s.datagramAcc } := by
  have hacc : (ckUdp s).acc =
      ((s.readField .udpLen).bind fun u => if u < 8 then none else some (ckTransport s 0x0011 u).acc).getD s.acc := by
    rw [ckUdp]
    cases s.readField .udpLen with
    | none => rfl
    | some u =>
      rw [Option.bind_some]
      dsimp only
      split <;> rfl
  rw [isUdpValid, State.datagramAcc, hacc]
  split <;> rfl

/-- A TCP-event predicate records the latch exactly when it is true. -/
theorem latchIf_record (b : Bool) (s : State) :
    (latchIf b s).state = s.record { latch := if (latchIf b s).holds then s.latchOf else none } := by
  unfold latchIf
  cases b with
  | false => rfl
  | true => cases s.latchOf <;> rfl

/-- A predicate that records the latch exactly when it is true. -/
def RecordsLatch (p : State → Answer) : Prop :=
  ∀ s, (p s).state = s.record { latch := if (p s).holds then s.latchOf else none }

theorem eventPredicates_recordLatch : ∀ p ∈ eventPredicates, RecordsLatch p := by
  simp only [eventPredicates, List.forall_mem_cons]
  exact ⟨fun _ => latchIf_record _ _, fun _ => latchIf_record _ _, fun _ => latchIf_record _ _,
    fun _ => latchIf_record _ _, fun _ => latchIf_record _ _, fun _ => latchIf_record _ _,
    fun _ => latchIf_record _ _, fun _ => latchIf_record _ _, nofun⟩

/-- A quantity that is a function of the frame and `local_ip` (R300). -/
def OfFrame {α : Type} (q : State → α) : Prop := ∀ ⦃s t⦄, SameFrame s t → q s = q t

theorem headerAcc_ofFrame : OfFrame State.headerAcc := fun _ _ h => by
  simp only [State.headerAcc, h.fieldIs, h.readField, h.ckLast]

theorem datagramAcc_ofFrame : OfFrame State.datagramAcc := fun _ _ h => by
  simp only [State.datagramAcc, h.fieldIs, h.readField, h.ckTransport]

theorem exec_isIp_record (s : State) :
    exec .isIp s = .next ((s.record { acc := s.headerAcc }).done (bit (isIp s).holds)) := by
  rw [← isIp_record]
  rfl

theorem exec_isUdpValid_record (s : State) :
    exec .isUdpValid s = .next ((s.record { acc := s.datagramAcc }).done (bit (isUdpValid s).holds)) := by
  rw [← isUdpValid_record]
  rfl

/-! ### Asking in order -/

/-- What a gated predicate answers in a later state that holds the same frame. -/
theorem SameFrame.gated_holds {s t : State} (h : SameFrame s t) {p : State → Answer} (hp : ReadsFrameOnly p) (g : Bool) :
    (gated g p t).holds = (g && (p s).holds) := by
  cases g with
  | false => rfl
  | true => exact (hp h).holds.symm

theorem SameFrame.gated_event {s t : State} (h : SameFrame s t) {p : State → Answer} (hp : ReadsFrameOnly p)
    (hrec : RecordsLatch p) (g : Bool) :
    (gated g p t).state = t.record { latch := if g && (p s).holds then s.latchOf else none } := by
  cases g with
  | false => rfl
  | true =>
    rw [(hp h).holds, h.latchOf]
    exact hrec t

/-- Events asked one after another, all of one frame: the latch is what the frame gives when any of them is true. -/
theorem SameFrame.askAll_eq {s : State} (g : Bool) {ps : List (State → Answer)} (hps : ∀ p ∈ ps, ReadsFrameOnly p)
    (hrec : ∀ p ∈ ps, RecordsLatch p) {t : State} (h : SameFrame s t) :
    askAll g ps t =
      (t.record { latch := if (ps.map fun p => g && (p s).holds).any id then s.latchOf else none },
        ps.map fun p => g && (p s).holds) := by
  induction ps generalizing t with
  | nil => rfl
  | cons p ps ih =>
    obtain ⟨hp, hps⟩ := List.forall_mem_cons.1 hps
    obtain ⟨hrecp, hrec⟩ := List.forall_mem_cons.1 hrec
    have hlatch : ∀ x y : Bool, (if y then s.latchOf else none).or (if x then s.latchOf else none) =
        if x || y then s.latchOf else none := fun x y => by
      cases x <;> cases y <;> simp
    rw [askAll, h.gated_holds hp, h.gated_event hp hrecp, ih hps hrec (h.record _), State.record_record, hlatch]
    rfl

/-- Bit 2: an IP frame for this station. -/
def State.ipForUs (s : State) : Bool := (isIp s).holds && (isIpUnicast s).holds

/-- Bit 5: a TCP segment for this station. -/
def State.tcpForUs (s : State) : Bool := s.ipForUs && (isTcp s).holds

/-- Bits 6 to 13. -/
def State.eventAnswers (s : State) : List Bool := eventPredicates.map fun p => s.tcpForUs && (p s).holds

/-- The fourteen gated answers, each as the predicate gives it on the frame (R318). -/
def State.gatedAnswers (s : State) : List Bool :=
  [(isArpReq s).holds, (isIp s).holds, s.ipForUs, s.ipForUs && (isPingReq s).holds, s.ipForUs && (isUdpValid s).holds,
    s.tcpForUs] ++ s.eventAnswers

/-- What CLASSIFY writes (R318, R320, R326). -/
def State.findings (s : State) : Findings where
  acc := (if s.ipForUs then s.datagramAcc else none).or s.headerAcc
  latch := if s.eventAnswers.any id then s.latchOf else none
  cls := some (clsVector s.gatedAnswers)

/-- The predicates between `IS_IP` and the events leave the state, `IS_UDP_VALID` apart, and all of them the frame. -/
theorem classifyBits_eq (s : State) : classifyBits s = (s.record { s.findings with cls := none }, s.gatedAnswers) := by
  have huni : ∀ g u, (gated g isIpUnicast u).state = u := gated_state_of_pure fun _ => rfl
  have hping : ∀ g u, (gated g isPingReq u).state = u := gated_state_of_pure fun _ => rfl
  have htcp : ∀ g u, (gated g isTcp u).state = u := gated_state_of_pure fun _ => rfl
  have harp : (isArpReq s).state = s := rfl
  have hip : SameFrame s (s.record { acc := s.headerAcc }) := (SameFrame.refl s).record _
  have hudp : (gated s.ipForUs isUdpValid (s.record { acc := s.headerAcc })).state =
      s.record { acc := s.findings.acc } := by
    rw [State.findings]
    cases s.ipForUs with
    | false => rfl
    | true => exact (isUdpValid_record _).trans (State.record_record _ _ _)
  have hlast : SameFrame s (s.record { acc := s.findings.acc }) := (SameFrame.refl s).record _
  simp only [classifyBits, huni, hping, htcp, harp, isIp_record]
  rw [hip.gated_holds isIpUnicast_readsFrameOnly, ← State.ipForUs, hip.gated_holds isPingReq_readsFrameOnly,
    hip.gated_holds isUdpValid_readsFrameOnly, hudp, hlast.gated_holds isTcp_readsFrameOnly, ← State.tcpForUs,
    hlast.askAll_eq s.tcpForUs eventPredicates_readFrameOnly eventPredicates_recordLatch]
  rfl

theorem exec_classify (s : State) :
    exec .classify s = .next ((s.record s.findings).done ((clsVector s.gatedAnswers).setWidth 48)) := by
  show execClassify s = _
  rw [execClassify, classifyBits_eq]
  rfl

/-! ### The bits of the classification -/

theorem testBit_bitsValue (bs : List Bool) (k : Nat) : (bitsValue bs).testBit k = bs[k]?.getD false := by
  induction bs generalizing k with
  | nil => exact Nat.zero_testBit k
  | cons b bs ih =>
    have hbit : bitsValue (b :: bs) = Nat.bit b (bitsValue bs) := by rw [Nat.bit_val, bitsValue, Nat.add_comm]
    rw [hbit]
    cases k with
    | zero => rw [Nat.testBit_bit_zero]; rfl
    | succ k => rw [Nat.testBit_bit_succ, ih]; rfl

theorem getLsbD_clsVector {k : Nat} (hk : k < 14) (bs : List Bool) : (clsVector bs).getLsbD k = bs[k]?.getD false := by
  rw [clsVector, BitVec.getLsbD_ofNat, testBit_bitsValue, decide_eq_true hk, Bool.true_and]

/-- A command that replies with a predicate's answer. -/
def Asks (i : Instr) (p : State → Answer) : Prop := ∀ s, exec i s = .next (p s).reply

theorem Asks.answersOne {i : Instr} {p : State → Answer} (h : Asks i p) (s : State) : answersOne i s = (p s).holds := by
  rw [Machine.answersOne, h s]
  show (bit (p s).holds == 1) = _
  cases (p s).holds <;> rfl

/-- The event commands and the predicates that CLASSIFY asks in their place, in the same order. -/
theorem eventCommands_ask : List.Forall₂ Asks eventCommands eventPredicates :=
  .cons (fun _ => rfl) <| .cons (fun _ => rfl) <| .cons (fun _ => rfl) <| .cons (fun _ => rfl) <|
    .cons (fun _ => rfl) <| .cons (fun _ => rfl) <| .cons (fun _ => rfl) <| .cons (fun _ => rfl) .nil

theorem exists_eventPredicate {k : Nat} {i : Instr} (h : eventCommands[k]? = some i) :
    ∃ p, eventPredicates[k]? = some p ∧ Asks i p := by
  obtain ⟨hk, rfl⟩ := List.getElem?_eq_some_iff.1 h
  exact ⟨_, List.getElem?_eq_getElem (eventCommands_ask.length_eq ▸ hk), eventCommands_ask.get hk _⟩

/-- Bits 6 to 13 (R318). -/
theorem getLsbD_event {k : Nat} {p : State → Answer} (h : eventPredicates[k]? = some p) (s : State) :
    (clsVector s.gatedAnswers).getLsbD (6 + k) = (s.tcpForUs && (p s).holds) := by
  have hk : k < 8 := (List.getElem?_eq_some_iff.1 h).1
  rw [getLsbD_clsVector (by omega), State.gatedAnswers, List.getElem?_append_right (Nat.le_add_right 6 k)]
  show s.eventAnswers[6 + k - 6]?.getD false = _
  rw [Nat.add_sub_cancel_left, State.eventAnswers, List.getElem?_map, h]
  rfl

theorem eventAnswers_any_of_bits {s : State} (h : ∀ k, k < 8 → (clsVector s.gatedAnswers).getLsbD (6 + k) = false) :
    s.eventAnswers.any id = false := by
  simp only [State.eventAnswers, List.any_map, List.any_eq_false]
  intro p hp
  obtain ⟨k, hk⟩ := List.mem_iff_getElem?.1 hp
  have hbit := h k (List.getElem?_eq_some_iff.1 hk).1
  rw [getLsbD_event hk] at hbit
  exact Bool.eq_false_iff.1 hbit

theorem eventAnswers_any_of_mem {s : State} {p : State → Answer} (hp : p ∈ eventPredicates)
    (h : (s.tcpForUs && (p s).holds) = true) : s.eventAnswers.any id = true :=
  List.any_eq_true.2 ⟨_, List.mem_map_of_mem hp, h⟩

section
variable (s : State)

theorem getLsbD_isArpReq : (clsVector s.gatedAnswers).getLsbD 0 = (isArpReq s).holds := getLsbD_clsVector (by decide) _

theorem getLsbD_isIp : (clsVector s.gatedAnswers).getLsbD 1 = (isIp s).holds := getLsbD_clsVector (by decide) _

theorem getLsbD_ipForUs : (clsVector s.gatedAnswers).getLsbD 2 = s.ipForUs := getLsbD_clsVector (by decide) _

theorem getLsbD_isPingReq : (clsVector s.gatedAnswers).getLsbD 3 = (s.ipForUs && (isPingReq s).holds) :=
  getLsbD_clsVector (by decide) _

theorem getLsbD_isUdpValid : (clsVector s.gatedAnswers).getLsbD 4 = (s.ipForUs && (isUdpValid s).holds) :=
  getLsbD_clsVector (by decide) _

theorem getLsbD_tcpForUs : (clsVector s.gatedAnswers).getLsbD 5 = s.tcpForUs := getLsbD_clsVector (by decide) _

end

/-! ### What CLASSIFY leaves, clause by clause -/

section
variable {s : State}

theorem acc_classify (v : Data) :
    ((s.record s.findings).done v).acc =
      if s.ipForUs then s.datagramAcc.getD (s.headerAcc.getD s.acc) else s.headerAcc.getD s.acc := by
  rw [State.acc_done, State.acc_record, State.findings, Option.getD_or]
  cases s.ipForUs <;> rfl

theorem latched_classify (v : Data) :
    ((s.record s.findings).done v).latched = if s.eventAnswers.any id then s.latchOf.getD s.latched else s.latched := by
  rw [State.latched_done, State.latched_record, State.findings]
  cases s.eventAnswers.any id <;> rfl

/-- Bit 2 clear: the accumulator is as `IS_IP` leaves it (R326). -/
theorem acc_classify_of_not_ipForUs (hno : s.ipForUs = false) (v : Data) {a : State} (ha : exec .isIp s = .next a) :
    ((s.record s.findings).done v).acc = a.acc := by
  obtain rfl := Host.Outcome.next.inj ((exec_isIp_record s).symm.trans ha)
  rw [acc_classify, hno]
  rfl

/-- Bit 2 set: the accumulator is as `IS_UDP_VALID` leaves it after `IS_IP` (R326). -/
theorem acc_classify_of_ipForUs (hip : s.ipForUs = true) (v : Data) {a b : State} (ha : exec .isIp s = .next a)
    (hb : exec .isUdpValid a = .next b) : ((s.record s.findings).done v).acc = b.acc := by
  obtain rfl := Host.Outcome.next.inj ((exec_isIp_record s).symm.trans ha)
  obtain rfl := Host.Outcome.next.inj ((exec_isUdpValid_record _).symm.trans hb)
  have hframe : SameFrame s ((s.record { acc := s.headerAcc }).done (bit (isIp s).holds)) :=
    ((SameFrame.refl s).record _).done _
  rw [acc_classify, hip, ← datagramAcc_ofFrame hframe]
  rfl

/-- An event that holds: the latch is as its own predicate leaves it (R320). -/
theorem latched_classify_of_event {p : State → Answer} (hp : p ∈ eventPredicates)
    (h : (s.tcpForUs && (p s).holds) = true) (v : Data) :
    ((s.record s.findings).done v).latched = (p s).reply.latched := by
  rw [latched_classify, eventAnswers_any_of_mem hp h, Answer.reply, State.latched_done,
    eventPredicates_recordLatch p hp s, State.latched_record, if_pos (Bool.and_eq_true_iff.1 h).2]
  rfl

end

/-- Settles O36: the bits from the closed form of CLASSIFY, then the latch and the accumulator. -/
theorem classifyGates : Obligations.ClassifyGates := by
  intro s
  have h1 := getLsbD_isIp s
  have h2 := getLsbD_ipForUs s
  have h5 := getLsbD_tcpForUs s
  have hanswer : ∀ {i p}, Asks i p → (p s).holds = answersOne i s := fun h => (h.answersOne s).symm
  refine ⟨_, exec_classify s, rfl, ?arp, ?ip, ?unicast, ?ping, ?udp, ?tcp, fun k i hi => ?event, fun hnone => ?keep,
    fun a ha => ⟨fun hbit => ?ipAcc, fun hbit b hb => ?udpAcc⟩, fun k i u hi hbit hu => ?latch⟩
  case arp => exact (getLsbD_isArpReq s).trans (hanswer fun _ => rfl)
  case ip => exact h1.trans (hanswer fun _ => rfl)
  case unicast => exact h2.trans (congrArg₂ and h1.symm (hanswer fun _ => rfl))
  case ping => exact (getLsbD_isPingReq s).trans (congrArg₂ and h2.symm (hanswer fun _ => rfl))
  case udp => exact (getLsbD_isUdpValid s).trans (congrArg₂ and h2.symm (hanswer fun _ => rfl))
  case tcp => exact h5.trans (congrArg₂ and h2.symm (hanswer fun _ => rfl))
  case event =>
    obtain ⟨p, hp, hask⟩ := exists_eventPredicate hi
    exact (getLsbD_event hp s).trans (congrArg₂ and h5.symm (hanswer hask))
  case keep =>
    refine State.latched_eq_iff.1 ?_
    rw [latched_classify, eventAnswers_any_of_bits hnone]
    rfl
  case ipAcc => exact State.acc_eq_iff.1 (acc_classify_of_not_ipForUs (h2.symm.trans hbit) _ ha)
  case udpAcc => exact State.acc_eq_iff.1 (acc_classify_of_ipForUs (h2.symm.trans hbit) _ ha hb)
  case latch =>
    obtain ⟨p, hp, hask⟩ := exists_eventPredicate hi
    obtain rfl := Host.Outcome.next.inj ((hask s).symm.trans hu)
    exact State.latched_eq_iff.1
      (latched_classify_of_event (List.mem_of_getElem? hp) ((getLsbD_event hp s).symm.trans hbit) _)

/-! ### The bits that exclude each other (R318, R452) -/

/-- A field has one value. -/
theorem State.fieldIs_unique {s : State} {f : Field} {v w : Nat} (hv : s.fieldIs f v = true) (hw : s.fieldIs f w = true) :
    v = w :=
  (State.fieldIs_iff.1 hv).2.symm.trans (State.fieldIs_iff.1 hw).2

theorem isIp_ethType {s : State} (h : (isIp s).holds = true) : s.fieldIs .ethType 0x0800 = true := by
  by_contra hne
  rw [isIp, if_neg hne] at h
  exact Bool.false_ne_true h

theorem isUdpValid_ipProto {s : State} (h : (isUdpValid s).holds = true) : s.fieldIs .ipProto 17 = true := by
  by_contra hne
  rw [isUdpValid, if_neg hne] at h
  exact Bool.false_ne_true h

theorem latchIf_test {b : Bool} {s : State} (h : (latchIf b s).holds = true) : b = true := by
  cases b with
  | false => exact h
  | true => rfl

theorem mqttReplyIs_mqttCtrl {v : Nat} {s : State} (h : (mqttReplyIs v s).holds = true) :
    s.fieldIs .mqttCtrl v = true := by
  obtain ⟨b, hb, hiff⟩ := mqttReplyIs_eq_latchIf v s
  rw [hb] at h
  obtain ⟨hdoff, -, hfirst, hvalue⟩ := hiff.1 (latchIf_test h)
  exact State.fieldIs_mqttCtrl.2 ⟨⟨hdoff, hfirst⟩, hvalue⟩

/-- Bits that each ask one field for a value of their own exclude each other; a table lists each bit with its value. -/
theorem exclusive_of_field {c : BitVec 14} {s : State} {f : Field} (table : List (Nat × Nat))
    (hvalues : ∀ x ∈ table, ∀ y ∈ table, x.2 = y.2 → x.1 = y.1)
    (hasks : ∀ x ∈ table, c.getLsbD x.1 = true → s.fieldIs f x.2 = true) :
    ∀ j k, j ∈ table.map Prod.fst → k ∈ table.map Prod.fst → c.getLsbD j = true → c.getLsbD k = true → j = k := by
  intro j k hj hk hcj hck
  obtain ⟨x, hx, rfl⟩ := List.mem_map.1 hj
  obtain ⟨y, hy, rfl⟩ := List.mem_map.1 hk
  exact hvalues x hx y hy (State.fieldIs_unique (hasks x hx hcj) (hasks y hy hck))

section
variable {s : State}

theorem ipForUs_of_bit : ∀ j ∈ [3, 4, 5], (clsVector s.gatedAnswers).getLsbD j = true → s.ipForUs = true := by
  simp only [List.forall_mem_cons, getLsbD_isPingReq, getLsbD_isUdpValid, getLsbD_tcpForUs, State.tcpForUs,
    Bool.and_eq_true]
  exact ⟨And.left, And.left, And.left, nofun⟩

theorem not_isIp_of_isArpReq (h : (isArpReq s).holds = true) : ¬ (isIp s).holds = true := fun hip =>
  absurd (State.fieldIs_unique (Bool.and_eq_true_iff.1 h).1 (isIp_ethType hip)) (by decide)

variable (s)

/-- One `IP_PROTO` for the ping, UDP and TCP bits. -/
theorem protocolBits_exclusive :
    ∀ j k, j ∈ [3, 4, 5] → k ∈ [3, 4, 5] → (clsVector s.gatedAnswers).getLsbD j = true →
      (clsVector s.gatedAnswers).getLsbD k = true → j = k := by
  refine exclusive_of_field (s := s) (f := .ipProto) [(3, 1), (4, 17), (5, 6)] (by decide) ?_
  simp only [List.forall_mem_cons, getLsbD_isPingReq, getLsbD_isUdpValid, getLsbD_tcpForUs, State.tcpForUs,
    Bool.and_eq_true]
  exact ⟨fun h => (Bool.and_eq_true_iff.1 h.2).1, fun h => isUdpValid_ipProto h.2, fun h => h.2, nofun⟩

theorem holds_of_eventBit {k : Nat} {p : State → Answer} (hp : eventPredicates[k]? = some p)
    (h : (clsVector s.gatedAnswers).getLsbD (6 + k) = true) : (p s).holds = true :=
  (Bool.and_eq_true_iff.1 ((getLsbD_event hp s).symm.trans h)).2

/-- One flag byte for the SYN-ACK, ACK, PSH-ACK and FIN-ACK bits. -/
theorem flagBits_exclusive :
    ∀ j k, j ∈ [6, 7, 8, 9] → k ∈ [6, 7, 8, 9] → (clsVector s.gatedAnswers).getLsbD j = true →
      (clsVector s.gatedAnswers).getLsbD k = true → j = k := by
  have hflags {k v : Nat} (hp : eventPredicates[k]? = some (flagsAre v))
      (h : (clsVector s.gatedAnswers).getLsbD (6 + k) = true) : s.fieldIs .tcpFlags v = true :=
    latchIf_test (holds_of_eventBit (p := flagsAre v) s hp h)
  refine exclusive_of_field (s := s) (f := .tcpFlags) [(6, 0x12), (7, 0x10), (8, 0x18), (9, 0x11)] (by decide) ?_
  simp only [List.forall_mem_cons]
  exact ⟨hflags (k := 0) rfl, hflags (k := 1) rfl, hflags (k := 2) rfl, hflags (k := 3) rfl, nofun⟩

/-- One first payload byte for the four MQTT bits. -/
theorem mqttBits_exclusive :
    ∀ j k, j ∈ [10, 11, 12, 13] → k ∈ [10, 11, 12, 13] → (clsVector s.gatedAnswers).getLsbD j = true →
      (clsVector s.gatedAnswers).getLsbD k = true → j = k := by
  have hfirst {k v : Nat} (hp : eventPredicates[k]? = some (mqttReplyIs v))
      (h : (clsVector s.gatedAnswers).getLsbD (6 + k) = true) : s.fieldIs .mqttCtrl v = true :=
    mqttReplyIs_mqttCtrl (holds_of_eventBit s hp h)
  refine exclusive_of_field (s := s) (f := .mqttCtrl) [(10, 0x20), (11, 0x90), (12, 0xB0), (13, 0xD0)] (by decide) ?_
  simp only [List.forall_mem_cons]
  exact ⟨hfirst (k := 4) rfl, hfirst (k := 5) rfl, hfirst (k := 6) rfl, hfirst (k := 7) rfl, nofun⟩

end

/-- Settles O37: `ETH_TYPE` parts bit 0 from the IP bits, and `IP_PROTO`, the TCP flags and the first payload byte part the
bits of each group. -/
theorem classifyExclusive : Obligations.ClassifyExclusive := by
  intro s t ht
  obtain rfl := Host.Outcome.next.inj ((exec_classify s).symm.trans ht)
  have harp (h0 : (clsVector s.gatedAnswers).getLsbD 0 = true) : ¬ (isIp s).holds = true :=
    not_isIp_of_isArpReq ((getLsbD_isArpReq s).symm.trans h0)
  have harpIp {j : Nat} (hj : j ∈ [3, 4, 5]) (h : (clsVector s.gatedAnswers).getLsbD j = true) :
      ¬ (clsVector s.gatedAnswers).getLsbD 0 = true := fun h0 =>
    harp h0 (Bool.and_eq_true_iff.1 (ipForUs_of_bit j hj h)).1
  refine ⟨fun j k hj hk hcj hck => ?_, fun ⟨h0, h1⟩ => harp h0 ((getLsbD_isIp s).symm.trans h1), flagBits_exclusive s,
    mqttBits_exclusive s⟩
  rcases List.mem_cons.1 hj with rfl | hj <;> rcases List.mem_cons.1 hk with rfl | hk
  · rfl
  · exact absurd hcj (harpIp hk hck)
  · exact absurd hck (harpIp hj hcj)
  · exact protocolBits_exclusive s j k hj hk hcj hck

/-! ### A classifier executed twice (R322) -/

theorem State.record_idem (w : Findings) (s : State) : (s.record w).record w = s.record w := by
  rw [State.record_record, Option.or_self, Option.or_self, Option.or_self]

theorem State.record_done (w : Findings) (v : Data) (s : State) : (s.done v).record w = (s.record w).done v := rfl

theorem State.done_done (v w : Data) (s : State) : (s.done v).done w = s.done w := rfl

/-- What a command writes and what it replies with are functions of the frame and `local_ip`. -/
def Classifies (i : Instr) : Prop :=
  ∃ (w : State → Findings) (v : State → Data), OfFrame w ∧ OfFrame v ∧ ∀ s, exec i s = .next ((s.record (w s)).done (v s))

/-- The second execution sees the same frame, and so writes once more what already stands there. -/
theorem Classifies.idempotent {i : Instr} (h : Classifies i) {s t : State} (ht : exec i s = .next t) :
    exec i t = .next t := by
  obtain ⟨w, v, hw, hv, hexec⟩ := h
  obtain rfl := Host.Outcome.next.inj ((hexec s).symm.trans ht)
  have hframe : SameFrame s ((s.record (w s)).done (v s)) := ((SameFrame.refl s).record _).done _
  rw [hexec, ← hw hframe, ← hv hframe, State.record_done, State.record_idem, State.done_done]

theorem Asks.classifies {i : Instr} {p : State → Answer} (hask : Asks i p) (hp : ReadsFrameOnly p)
    {w : State → Findings} (hw : OfFrame w) (hrec : ∀ s, (p s).state = s.record (w s)) : Classifies i :=
  ⟨w, fun s => bit (p s).holds, hw, fun _ _ h => congrArg bit (hp h).holds, fun s => by
    rw [hask s, Answer.reply, hrec]⟩

/-- A predicate that only compares. -/
theorem Asks.classifies_of_pure {i : Instr} {p : State → Answer} (hask : Asks i p) (hp : ReadsFrameOnly p)
    (hpure : ∀ s, (p s).state = s) : Classifies i :=
  hask.classifies hp (w := fun _ => {}) (fun _ _ _ => rfl) hpure

theorem classifies_eventCommand {i : Instr} (hi : i ∈ eventCommands) : Classifies i := by
  obtain ⟨k, hk⟩ := List.mem_iff_getElem?.1 hi
  obtain ⟨p, hp, hask⟩ := exists_eventPredicate hk
  have hmem : p ∈ eventPredicates := List.mem_of_getElem? hp
  have hread := eventPredicates_readFrameOnly p hmem
  exact hask.classifies hread (fun _ _ h => by rw [(hread h).holds, h.latchOf]) (eventPredicates_recordLatch p hmem)

theorem classifies_predicateCommand : ∀ i ∈ predicateCommands, Classifies i := by
  refine (List.forall_mem_append (l₁ := [.isArpReq, .isIp, .isIpUnicast, .isPingReq, .isUdpValid, .isTcp])
    (l₂ := eventCommands)).2 ⟨?_, fun i => classifies_eventCommand⟩
  simp only [List.forall_mem_cons]
  refine ⟨?arp, ?ip, ?unicast, ?ping, ?udp, ?tcp, nofun⟩
  case arp => exact Asks.classifies_of_pure (fun _ => rfl) isArpReq_readsFrameOnly fun _ => rfl
  case ip =>
    exact Asks.classifies (fun _ => rfl) isIp_readsFrameOnly (fun _ _ h => by rw [headerAcc_ofFrame h]) isIp_record
  case unicast => exact Asks.classifies_of_pure (fun _ => rfl) isIpUnicast_readsFrameOnly fun _ => rfl
  case ping => exact Asks.classifies_of_pure (fun _ => rfl) isPingReq_readsFrameOnly fun _ => rfl
  case udp =>
    exact Asks.classifies (fun _ => rfl) isUdpValid_readsFrameOnly (fun _ _ h => by rw [datagramAcc_ofFrame h])
      isUdpValid_record
  case tcp => exact Asks.classifies_of_pure (fun _ => rfl) isTcp_readsFrameOnly fun _ => rfl

theorem gatedAnswers_ofFrame : OfFrame State.gatedAnswers := fun s t h => by
  have hanswers := h.classifyBits_answers
  rwa [classifyBits_eq, classifyBits_eq] at hanswers

theorem findings_ofFrame : OfFrame State.findings := fun s t h => by
  have hgate : s.ipForUs = t.ipForUs := congrArg₂ and (isIp_readsFrameOnly h).holds (isIpUnicast_readsFrameOnly h).holds
  have hevents : s.eventAnswers = t.eventAnswers := congrArg (List.drop 6) (gatedAnswers_ofFrame h)
  rw [State.findings, State.findings, hgate, hevents, headerAcc_ofFrame h, datagramAcc_ofFrame h, h.latchOf,
    gatedAnswers_ofFrame h]

theorem classifies_classify : Classifies .classify :=
  ⟨State.findings, fun s => (clsVector s.gatedAnswers).setWidth 48, findings_ofFrame,
    fun _ _ h => congrArg (fun bs => (clsVector bs).setWidth 48) (gatedAnswers_ofFrame h), exec_classify⟩

/-- Settles O38: CLASSIFY and the fourteen predicates write and answer by the frame alone, which they leave. -/
theorem classifiersIdempotent : Obligations.ClassifiersIdempotent := by
  intro i s t hi ht
  rcases List.mem_cons.1 hi with rfl | hi
  · exact classifies_classify.idempotent ht
  · exact (classifies_predicateCommand i hi).idempotent ht

end Sys2Proof.Machine
end

section
/-! PROOF. The commands that only return a register (R319, R396, R397, R440 to R448). -/

namespace Sys2Proof.Machine

/-- `cls_fresh` stands above the fourteen bits of `cls` (R319). -/
theorem exec_clsGet (s : State) :
    exec .clsGet s = .next (s.done (BitVec.ofNat 48 ((if s.clsFresh then 16384 else 0) + s.cls.toNat))) := by
  show execClsGet s = _
  rw [execClsGet]
  cases s.clsFresh <;> rfl

theorem exec_cfgGetDhcp (s : State) :
    exec .cfgGetDhcp s = .next (s.done (BitVec.ofNat 48 (if s.dhcpEn then 1 else 0))) := by
  show execCfgGetDhcp s = _
  rw [execCfgGetDhcp, bit]
  cases s.dhcpEn <;> rfl

/-- `req` stands above the four bits of `state` (R396). -/
theorem exec_ssmGet (s : State) : exec .ssmGet s = .next (s.done (BitVec.ofNat 48 (16 * s.req.toNat + s.state.toNat))) := by
  show execSsmGet s = _
  rw [execSsmGet, Nat.mul_comm]

/-- Settles O57: a register is returned as its value widened to the result, and the packed ones as the three lemmas above
say. -/
theorem registerReads : Obligations.RegisterReads := by
  intro s
  have hwiden : ∀ {w : Nat} (x : BitVec w), s.done (BitVec.ofNat 48 x.toNat) = s.done (x.setWidth 48) := fun x => by
    rw [BitVec.ofNat_toNat]
  have hmac : s.localMac.setWidth 48 = s.localMac := BitVec.setWidth_eq _
  exact ⟨congrArg _ ((hwiden _).trans (congrArg (s.done ·) hmac)).symm, congrArg _ (hwiden _).symm, congrArg _ (hwiden _).symm,
    congrArg _ (hwiden _).symm, exec_cfgGetDhcp s, exec_clsGet s, exec_ssmGet s, congrArg _ (hwiden _).symm⟩

end Sys2Proof.Machine
end

section
/-! PROOF. The two ARP builders (R344, R345), and how every builder that ends well leaves the registers (R342). -/

namespace Sys2Proof.Machine

/-! ### The end of a builder (R342) -/

/-- What a builder that has built `t` leaves: the classification forgotten, the frame length as the result. -/
def State.built (t : State) : State := t.clearCls.done (t.frameLen.setWidth 48)

theorem endBuild_some (s t : State) : endBuild s (some t) = t.built := rfl

@[simp] theorem State.byteAt_built (t : State) (a : Nat) : t.built.byteAt a = t.byteAt a := rfl
@[simp] theorem State.memRead_built (t : State) (a n : Nat) : t.built.memRead a n = t.memRead a n := rfl
@[simp] theorem State.frameSum_built (t : State) (a n : Nat) : t.built.frameSum a n = t.frameSum a n := rfl

theorem State.Reframed.memWrite {s t : State} (h : s.Reframed t) (a n v : Nat) : s.Reframed (t.memWrite a n v) :=
  h.storeBytes a (beBytes n v)

/-- What a builder that wrote the frame only leaves, register by register. -/
theorem State.Reframed.built_eq {s t : State} (h : s.Reframed t) {len : Nat} (hlen : t.flen = len) :
    t.built =
      { s with
        buf := t.built.buf, frameLen := BitVec.ofNat 16 len, cls := 0, clsFresh := false, rdata := BitVec.ofNat 48 len,
        status := .ok } := by
  obtain ⟨m, n, rfl⟩ := h
  subst hlen
  have hframe : BitVec.ofNat 16 n.toNat = n := (BitVec.ofNat_toNat 16 n).trans (BitVec.setWidth_eq n)
  have hresult : BitVec.ofNat 48 n.toNat = n.setWidth 48 := BitVec.ofNat_toNat 48 n
  rw [show (s.reframe m n).flen = n.toNat from rfl, hframe, hresult]
  rfl

/-- What a builder leaves, register by register. -/
theorem State.Rebuilt.built_eq {s t : State} (h : s.Rebuilt t) {len : Nat} (hlen : t.flen = len) :
    t.built =
      { s with
        buf := t.built.buf, frameLen := BitVec.ofNat 16 len, cls := 0, clsFresh := false, sum := t.sum,
        phase := t.phase, rdata := BitVec.ofNat 48 len, status := .ok } := by
  obtain ⟨c, hc⟩ := h
  refine (hc.built_eq hlen).trans ?_
  obtain ⟨m, n, rfl⟩ := hc
  rfl

/-! ### BLD_ARP_REPLY -/

/-- The reply of R344, as writes of numbers: every number is read from the request. -/
def State.arpReplied (s : State) : State :=
  (((((((s.memWrite 0 6 (s.memRead 6 6)).memWrite 6 6 s.localMac.toNat).memWrite 20 2 2).memWrite 32 6
    (s.memRead 22 6)).memWrite 38 4 (s.memRead 28 4)).memWrite 22 6 s.localMac.toNat).memWrite 28 4
    (s.memRead 38 4)).setFlen 42

theorem exec_bldArpReply_of_le {s : State} (h : 42 ≤ s.flen) :
    exec .bldArpReply s = .next s.arpReplied.built := by
  show execBldArpReply s = _
  rw [execBldArpReply, if_neg (Nat.not_lt.2 h)]
  rfl

theorem exec_bldArpReply_of_lt {s : State} (h : s.flen < 42) : exec .bldArpReply s = .next (s.raise .errBounds) := by
  show execBldArpReply s = _
  rw [execBldArpReply, if_pos h]

theorem State.flen_arpReplied (s : State) : s.arpReplied.flen = 42 := State.flen_setFlen (by norm_num) _

theorem State.reframed_arpReplied (s : State) : s.Reframed s.arpReplied :=
  ((((((((State.Reframed.refl s).memWrite _ _ _).memWrite _ _ _).memWrite _ _ _).memWrite _ _ _).memWrite _ _ _).memWrite
    _ _ _).memWrite _ _ _).setFlen _

/-- A byte that no write of the reply meets. -/
theorem State.byteAt_arpReplied {s : State} {a : Nat} (h : (12 ≤ a ∧ a < 20) ∨ 42 ≤ a) :
    s.arpReplied.byteAt a = s.byteAt a := by
  unfold State.arpReplied
  simp (disch := omega) only [State.byteAt_setFlen, State.byteAt_memWrite_of_not]

/-- Settles O40: the seven writes meet nowhere, so each field reads as the number written into it. -/
theorem arpReplyBuilds : Obligations.ArpReplyBuilds := by
  intro s
  refine ⟨fun hlong => ⟨_, exec_bldArpReply_of_le hlong, s.reframed_arpReplied.built_eq s.flen_arpReplied, ?_⟩,
    exec_bldArpReply_of_lt⟩
  have hmac : s.localMac.toNat < 256 ^ 6 := s.localMac.isLt
  have hsrc : s.memRead 6 6 < 256 ^ 6 := s.memRead_lt 6 6
  have hsha : s.memRead 22 6 < 256 ^ 6 := s.memRead_lt 22 6
  have hspa : s.memRead 28 4 < 256 ^ 4 := s.memRead_lt 28 4
  have htpa : s.memRead 38 4 < 256 ^ 4 := s.memRead_lt 38 4
  simp only [State.memRead_built, State.byteAt_built]
  refine ⟨?_, ?_, ?_, ?_, ?_, ?_, ?_, fun a ha => State.byteAt_arpReplied ha⟩ <;>
    simp (disch := omega) only [State.arpReplied, State.memRead_setFlen, State.memRead_memWrite_of_disjoint,
      State.memRead_memWrite]

/-! ### BLD_ARP_REQ -/

theorem State.wdata32_of_lt {s : State} (h : s.wdata.toNat < 2 ^ 32) :
    s.wdata32 = some (BitVec.ofNat 32 s.wdata.toNat) := by
  rw [State.wdata32, if_neg (Nat.not_le.2 h)]

theorem State.wdata32_of_le {s : State} (h : 2 ^ 32 ≤ s.wdata.toNat) : s.wdata32 = none := by
  rw [State.wdata32, if_pos h]

/-- The request of R345 laid in the buffer. -/
def State.arpRequested (s : State) : State :=
  (s.storeBytes 0 (arpRequestFrame s.localMac s.localIp (BitVec.ofNat 32 s.wdata.toNat))).setFlen 42

theorem State.flen_arpRequested (s : State) : s.arpRequested.flen = 42 := State.flen_setFlen (by norm_num) _

theorem State.reframed_arpRequested (s : State) : s.Reframed s.arpRequested :=
  ((State.Reframed.refl s).storeBytes _ _).setFlen _

theorem exec_bldArpReq_of_lt {s : State} (h : s.wdata.toNat < 2 ^ 32) :
    exec .bldArpReq s = .next s.arpRequested.built := by
  show execBldArpReq s = _
  rw [execBldArpReq, State.wdata32_of_lt h]
  rfl

theorem exec_bldArpReq_of_le {s : State} (h : 2 ^ 32 ≤ s.wdata.toNat) :
    exec .bldArpReq s = .next (s.raise .errArg) := by
  show execBldArpReq s = _
  rw [execBldArpReq, State.wdata32_of_le h]

/-- A number of the request laid in the buffer. -/
theorem State.memRead_arpRequested {s : State} {a n v : Nat}
    (h : ((arpRequestFrame s.localMac s.localIp (BitVec.ofNat 32 s.wdata.toNat)).drop a).take n = beBytes n v)
    (ha : a + n ≤ 42) (hv : v < 256 ^ n) : s.arpRequested.memRead a n = v := by
  rw [State.arpRequested, State.memRead_setFlen]
  exact State.memRead_storeBytes_zero (by rwa [arpRequestFrame_length]) h hv

/-- A byte above the request. -/
theorem State.byteAt_arpRequested {s : State} {a : Nat} (h : 42 ≤ a) : s.arpRequested.byteAt a = s.byteAt a := by
  rw [State.arpRequested, State.byteAt_setFlen]
  exact State.byteAt_storeBytes_of_not (by rw [arpRequestFrame_length]; omega)

/-- Settles O41: the frame is one store of 42 bytes, and each field is where its bytes stand in it. -/
theorem arpRequestBuilds : Obligations.ArpRequestBuilds := by
  intro s
  refine ⟨fun hnarrow => ⟨_, exec_bldArpReq_of_lt hnarrow, s.reframed_arpRequested.built_eq s.flen_arpRequested, ?_⟩,
    exec_bldArpReq_of_le⟩
  have hmac : s.localMac.toNat < 256 ^ 6 := s.localMac.isLt
  have hip : s.localIp.toNat < 256 ^ 4 := s.localIp.isLt
  have htarget : s.wdata.toNat % 4294967296 = s.wdata.toNat := Nat.mod_eq_of_lt hnarrow
  simp only [State.memRead_built, State.byteAt_built]
  refine ⟨?_, ?_, ?_, ?_, ?_, ?_, ?_, ?_, ?_, ?_, ?_, ?_, fun a ha => State.byteAt_arpRequested ha⟩ <;>
    exact State.memRead_arpRequested (by simp [arpRequestFrame, beBytes, htarget]) (by norm_num) (by omega)

end Sys2Proof.Machine
end

section
/-! PROOF. The MQTT builders (R354 to R360). -/

namespace Sys2Proof.Machine

/-- The segment of an MQTT packet, answering the latched one (R354). -/
def State.mqttReply (control : Byte) (body : List Byte) (s : State) : Segment :=
  replySegment 0x18 (control :: BitVec.ofNat 8 body.length :: body) s

theorem State.mqttReply_tcpLen (control : Byte) (body : List Byte) (s : State) :
    (s.mqttReply control body).tcpLen = 22 + body.length := by
  simp only [State.mqttReply, replySegment, Segment.tcpLen, List.length_cons, List.length_nil]; omega

theorem mqttSegment_of_le {control : Byte} {body : List Byte} {s : State} (h : body.length ≤ 127) :
    mqttSegment control body s = emitTcp (s.mqttReply control body) s := by
  rw [mqttSegment, if_neg (Nat.not_lt.2 h)]
  rfl

theorem mqttSegment_of_lt {control : Byte} {body : List Byte} {s : State} (h : 127 < body.length) :
    mqttSegment control body s = s.raise .errArg := by
  rw [mqttSegment, if_pos h]

/-- A packet with one remaining-length byte fits, so the emitter completes (R354). -/
theorem mqttSegment_emits {control : Byte} {body : List Byte} {s : State} (h : body.length ≤ 127) :
    ∃ t, mqttSegment control body s = t ∧
      t = { s with
            buf := t.buf, frameLen := BitVec.ofNat 16 (56 + body.length), cls := 0, clsFresh := false, sum := t.sum,
            phase := t.phase, rdata := BitVec.ofNat 48 (56 + body.length), status := .ok } ∧
      t.Carries s (s.mqttReply control body) := by
  have hlen : 34 + (s.mqttReply control body).tcpLen = 56 + body.length := by rw [State.mqttReply_tcpLen]; omega
  rw [mqttSegment_of_le h, ← hlen]
  exact emitTcp_spec _ s (by omega) (by decide : 0 ≤ 40) (by decide : (0x18 : Nat) < 4096)

/-- The variable part of CONNECT, with the protocol name and version written out (R355). -/
theorem connectBody_eq (p : Config.Params) :
    connectBody p =
      ([0x00, 0x04, 0x4D, 0x51, 0x54, 0x54, 0x04, p.connectFlags] : List Byte) ++ beBytes 2 p.keepAlive.toNat ++
        beBytes 2 p.clientId.length ++ p.clientId := by
  simp [connectBody, mqttString, Config.mqttName, Config.mqttVersion, beBytes]

/-! The builders with operands: the parameters, or strings of the counted lengths on the stream port (R120). -/

theorem exec_bldMqttConnect (s : State) :
    exec .bldMqttConnect s = .next (mqttSegment 0x10 (connectBody s.params) s) := rfl

theorem exec_bldMqttPublish (s : State) :
    exec (.bldMqttPublish s.s0.length s.s1.length) s =
      .next (mqttSegment 0x30 (beBytes 2 s.s0.length ++ s.s0 ++ s.s1) s) := by
  show execBldMqttPublish _ _ s = _
  rw [execBldMqttPublish, streamBytes_exact, streamBytes_exact, mqttString]

theorem exec_bldMqttSubscribe (s : State) :
    exec (.bldMqttSubscribe s.s0.length) s =
      .next (mqttSegment 0x82
        (beBytes 2 s.params.msgId.toNat ++ beBytes 2 s.s0.length ++ s.s0 ++ [s.params.subQos]) s) := by
  show execBldMqttSubscribe _ s = _
  rw [execBldMqttSubscribe, streamBytes_exact, mqttString, ← List.append_assoc]

theorem exec_bldMqttUnsubscribe (s : State) :
    exec (.bldMqttUnsubscribe s.s0.length) s =
      .next (mqttSegment 0xA2 (beBytes 2 s.params.msgId.toNat ++ beBytes 2 s.s0.length ++ s.s0) s) := by
  show execBldMqttUnsubscribe _ s = _
  rw [execBldMqttUnsubscribe, streamBytes_exact, mqttString, ← List.append_assoc]

/-- Settles O45: each builder is `mqtt_segment` of its control byte and its variable part, so the length of the variable
part decides. -/
theorem mqttBuildersEmit : Obligations.MqttBuildersEmit := by
  intro s i control body hi
  have hexec : exec i s = .next (mqttSegment control body s) := by
    simp only [List.mem_cons, List.not_mem_nil, or_false, Prod.mk.injEq] at hi
    rcases hi with ⟨rfl, rfl, rfl⟩ | ⟨rfl, rfl, rfl⟩ | ⟨rfl, rfl, rfl⟩ | ⟨rfl, rfl, rfl⟩ | ⟨rfl, rfl, rfl⟩ |
      ⟨rfl, rfl, rfl⟩
    · rw [exec_bldMqttConnect, connectBody_eq]
    · exact exec_bldMqttPublish s
    · exact exec_bldMqttSubscribe s
    · exact exec_bldMqttUnsubscribe s
    · rfl
    · rfl
  rw [hexec]
  refine ⟨fun hle => ?_, fun hlt => congrArg _ (mqttSegment_of_lt hlt)⟩
  obtain ⟨t, rfl, ht, hc⟩ := mqttSegment_emits (control := control) (s := s) hle
  exact ⟨_, rfl, ht, hc⟩

end Sys2Proof.Machine
end

section
/-! PROOF. What the two IP responders share (R346, R347): the addresses exchanged and the IP header sealed; and why a header
that has been sealed passes IS_IP (R304, R341). -/

namespace Sys2Proof.Machine

/-! ### Exchanges (R13) -/

/-- Exchange two regions of `n` bytes: both are read before either is written. -/
def State.exchange (a b n : Nat) (s : State) : State :=
  (s.memWrite a n (s.memRead b n)).memWrite b n (s.memRead a n)

section
variable {a b n : Nat}

theorem State.memRead_exchange_left (h : a + n ≤ b) (s : State) : (s.exchange a b n).memRead a n = s.memRead b n := by
  rw [State.exchange, State.memRead_memWrite_of_disjoint (.inl h), State.memRead_memWrite _ _ _ (s.memRead_lt b n)]

theorem State.memRead_exchange_right (s : State) : (s.exchange a b n).memRead b n = s.memRead a n :=
  State.memRead_memWrite _ _ _ (s.memRead_lt a n) _

theorem State.byteAt_exchange_of_not {s : State} {x : Nat} (ha : ¬ (a ≤ x ∧ x < a + n)) (hb : ¬ (b ≤ x ∧ x < b + n)) :
    (s.exchange a b n).byteAt x = s.byteAt x := by
  rw [State.exchange, State.byteAt_memWrite_of_not hb, State.byteAt_memWrite_of_not ha]

theorem State.memRead_exchange_of_disjoint {s : State} {c m : Nat} (ha : c + m ≤ a ∨ a + n ≤ c)
    (hb : c + m ≤ b ∨ b + n ≤ c) : (s.exchange a b n).memRead c m = s.memRead c m :=
  State.memRead_congr fun k hk => State.byteAt_exchange_of_not (by omega) (by omega)

end

/-- Both address pairs exchanged, as the responders do first (R346, R347). -/
def State.returned (s : State) : State := (s.exchange 0 6 6).exchange 26 30 4

theorem State.swapAddresses_eq (s : State) :
    (s.swapFields .ethDst .ethSrc).swapFields .ipSrc .ipDst = s.returned := rfl

theorem State.swapPorts_eq (s : State) : s.swapFields .udpSport .udpDport = s.exchange s.l4 (s.l4 + 2) 2 := rfl

theorem State.byteAt_returned {s : State} {x : Nat} (h : (12 ≤ x ∧ x < 26) ∨ 34 ≤ x) :
    s.returned.byteAt x = s.byteAt x := by
  rw [State.returned, State.byteAt_exchange_of_not (by omega) (by omega),
    State.byteAt_exchange_of_not (by omega) (by omega)]

theorem State.l4_returned (s : State) : s.returned.l4 = s.l4 := State.l4_congr (State.byteAt_returned (by omega))

/-- `t` carries the addresses of `s`, exchanged (R346, R347). -/
structure State.Returns (t s : State) : Prop where
  /-- The Ethernet destination is the old source. -/
  ethDst : t.memRead 0 6 = s.memRead 6 6
  /-- The Ethernet source is the old destination. -/
  ethSrc : t.memRead 6 6 = s.memRead 0 6
  /-- The IP source is the old destination. -/
  ipSrc : t.memRead 26 4 = s.memRead 30 4
  /-- The IP destination is the old source. -/
  ipDst : t.memRead 30 4 = s.memRead 26 4

/-- Writes elsewhere keep the addresses exchanged. -/
theorem State.Returns.of_byteAt {t s : State} (h : ∀ x, x < 12 ∨ (26 ≤ x ∧ x < 34) → t.byteAt x = s.returned.byteAt x) :
    t.Returns s where
  ethDst := by
    rw [State.memRead_congr fun k hk => h (0 + k) (by omega), State.returned,
      State.memRead_exchange_of_disjoint (by omega) (by omega), State.memRead_exchange_left (by omega)]
  ethSrc := by
    rw [State.memRead_congr fun k hk => h (6 + k) (by omega), State.returned,
      State.memRead_exchange_of_disjoint (by omega) (by omega), State.memRead_exchange_right]
  ipSrc := by
    rw [State.memRead_congr fun k hk => h (26 + k) (by omega), State.returned, State.memRead_exchange_left (by omega),
      State.memRead_exchange_of_disjoint (by omega) (by omega)]
  ipDst := by
    rw [State.memRead_congr fun k hk => h (30 + k) (by omega), State.returned, State.memRead_exchange_right,
      State.memRead_exchange_of_disjoint (by omega) (by omega)]

/-! ### The IP header sealed (R163, R341) -/

/-- The sum that the IP checksum is taken of: the header without its checksum field (R158). -/
def State.headerSum (s : State) : Nat := s.frameSum 14 10 + s.frameSum 26 (4 * s.loNibble 14 - 12)

/-- The IP header with its checksum, and the accumulator as `ck_ip()` leaves it. -/
def State.ipSealed (s : State) : State :=
  ((s.memWrite 24 2 0).withAcc ⟨BitVec.ofNat 32 (onesFold s.headerSum), false⟩).memWrite 24 2
    (65535 - onesFold s.headerSum)

theorem State.l4_eq (s : State) : s.l4 = 14 + 4 * s.loNibble 14 := rfl

/-- A header of at least 20 bytes with its checksum field 0 sums as the rest of it (R158). -/
theorem State.frameSum_header {s : State} (hihl : 5 ≤ s.loNibble 14) :
    (s.memWrite 24 2 0).frameSum 14 (4 * s.loNibble 14) = s.headerSum := by
  have hzero : (s.memWrite 24 2 0).memRead (14 + 10) 2 = 0 := State.memRead_memWrite 24 2 0 (by norm_num) s
  rw [show 4 * s.loNibble 14 = 10 + 2 + (4 * s.loNibble 14 - 12) by omega, State.frameSum_skip rfl hzero,
    State.frameSum_memWrite_of_disjoint (by omega), State.frameSum_memWrite_of_disjoint (by omega), State.headerSum]

/-- Sealing a header of at least 20 bytes that is in frame. -/
theorem sealIp_eq {s : State} (hihl : 5 ≤ s.loNibble 14) (hin : s.l4 ≤ s.flen) : sealIp s = some s.ipSealed := by
  have hlo : (s.memWrite 24 2 0).loNibble 14 = s.loNibble 14 := State.loNibble_memWrite_of_not (by omega)
  rw [State.l4_eq] at hin
  rw [sealIp, State.storeField_ipCsum, ckIp_eq, State.flen_memWrite, hlo, if_neg (by omega), if_neg (by omega),
    State.frameSum_header hihl, storeChecksum_some, State.storeField_ipCsum, checksum_toNat, State.ipSealed]

theorem State.byteAt_ipSealed {s : State} {x : Nat} (h : x < 24 ∨ 26 ≤ x) : s.ipSealed.byteAt x = s.byteAt x := by
  rw [State.ipSealed, State.byteAt_memWrite_of_not (by omega), State.byteAt_withAcc,
    State.byteAt_memWrite_of_not (by omega)]

theorem State.flen_ipSealed (s : State) : s.ipSealed.flen = s.flen := rfl

theorem State.l4_ipSealed (s : State) : s.ipSealed.l4 = s.l4 := State.l4_congr (State.byteAt_ipSealed (by omega))

/-- The header's sum from the bytes of the header. -/
theorem State.headerSum_congr {s t : State} (hihl : 5 ≤ s.loNibble 14)
    (h : ∀ x, 14 ≤ x → x < s.l4 → x < 24 ∨ 26 ≤ x → s.byteAt x = t.byteAt x) : s.headerSum = t.headerSum := by
  rw [State.l4_eq] at h
  have hlo : s.loNibble 14 = t.loNibble 14 := by rw [State.loNibble, h 14 (by omega) (by omega) (by omega), State.loNibble]
  rw [State.headerSum, State.frameSum_congr fun k hk => h (14 + k) (by omega) (by omega) (by omega),
    State.frameSum_congr fun k hk => h (26 + k) (by omega) (by omega) (by omega), hlo, State.headerSum]

/-- The IP checksum field holds the checksum of the header. -/
def State.HeaderSealed (s : State) : Prop := s.memRead 24 2 = 65535 - onesFold s.headerSum

theorem State.HeaderSealed.ipCsum {s : State} (h : s.HeaderSealed) {ihl : Nat} (hihl : s.loNibble 14 = ihl) :
    s.memRead 24 2 = 65535 - onesFold (s.frameSum 14 10 + s.frameSum 26 (4 * ihl - 12)) := hihl ▸ h

/-- Writes that leave the header of a sealed frame leave it sealed. -/
theorem State.HeaderSealed.of_byteAt {s t : State} (hihl : 5 ≤ s.loNibble 14)
    (h : ∀ x, 14 ≤ x → x < s.l4 → t.byteAt x = s.ipSealed.byteAt x) : t.HeaderSealed := by
  have hl4 : s.l4 = 14 + 4 * s.loNibble 14 := s.l4_eq
  have hsum : s.headerSum = t.headerSum := State.headerSum_congr hihl fun x h14 hx hcsum => by
    rw [h x h14 hx, State.byteAt_ipSealed hcsum]
  rw [State.HeaderSealed, ← hsum, State.memRead_congr fun k hk => h (24 + k) (by omega) (by omega), State.ipSealed]
  exact State.memRead_memWrite _ _ _ (by omega) _

/-! ### Frames that pass IS_IP -/

/-- An IPv4 frame whose header is whole, sealed, and says how long the frame is (R340, R341). -/
structure State.IpFramed (t : State) : Prop where
  /-- The frame is IPv4. -/
  ethType : t.memRead 12 2 = 0x0800
  /-- The header has at least its 20 bytes. -/
  header : 5 ≤ t.loNibble 14
  /-- The header is in frame. -/
  inFrame : t.l4 ≤ t.flen
  /-- The checksum is that of the header. -/
  headerSealed : t.HeaderSealed
  /-- The frame is as long as the header says. -/
  length : t.flen = 14 + t.memRead 16 2

theorem State.IpFramed.built {t : State} (h : t.IpFramed) : t.built.IpFramed := { h with }

/-- A sealed header verifies (R159, R304). -/
theorem State.IpFramed.isIp {t u : State} (h : t.IpFramed) (hu : exec .isIp t = .next u) : u.rdata = 1 := by
  have hin : 14 + 4 * t.loNibble 14 ≤ t.flen := h.inFrame
  have hihl := h.header
  have hverifies : onesFold (0 + t.frameSum 14 (10 + 2 + (4 * t.loNibble 14 - 12))) = 65535 :=
    State.frameSum_verifies rfl (by rw [Nat.zero_add]; exact h.headerSealed)
  rw [Nat.zero_add, show 10 + 2 + (4 * t.loNibble 14 - 12) = 4 * t.loNibble 14 by omega] at hverifies
  rw [exec_isIp_of_ipv4 (by omega) h.ethType, ckIp_eq, if_neg (by omega), if_neg (Nat.not_lt.2 hin),
    bit_checksum_eq_zero, if_pos hverifies] at hu
  cases hu
  rfl

end Sys2Proof.Machine
end

section
/-! PROOF. BLD_ICMP_REPLY (R346): the reply as one equation, stage by stage, and which bytes a later
stage leaves as an earlier one made them. -/

namespace Sys2Proof.Machine

theorem State.l4_ge_of_ihl {s : State} (hihl : 5 ≤ s.loNibble 14) : 34 ≤ s.l4 := by rw [State.l4_eq]; omega

/-! ### BLD_ICMP_REPLY -/

/-- The addresses exchanged, the type 0, the frame cut to the message of `n` bytes (R346). -/
def State.icmpTyped (n : Nat) (s : State) : State := (s.returned.memWrite s.l4 1 0).setFlen (s.l4 + n)

/-- The sum that the ICMP checksum of a message of `n` bytes from `l4` is taken of (R158, R164). -/
def State.icmpSum (l4 n : Nat) (s : State) : Nat := s.frameSum l4 2 + s.frameSum (l4 + 4) (n - 4)

/-- The reply of R346, with the accumulator as the ICMP sum leaves it. -/
def State.icmpReplied (n : Nat) (s : State) : State :=
  let t := (s.icmpTyped n).ipSealed
  (t.withAcc ⟨BitVec.ofNat 32 (onesFold (t.icmpSum s.l4 n)), decide (n % 2 = 1)⟩).memWrite (s.l4 + 2) 2
    (65535 - onesFold (t.icmpSum s.l4 n))

theorem exec_bldIcmpReply (s : State) :
    exec .bldIcmpReply s =
      .next (if s.flen < 34 ∨ s.memRead 16 2 < 4 * s.loNibble 14 + 8 ∨
          s.flen < s.l4 + (s.memRead 16 2 - 4 * s.loNibble 14) then s.raise .errBounds
        else endBuild s (icmpReply (s.memRead 16 2 - 4 * s.loNibble 14) s)) := by
  show execBldIcmpReply s = _
  rw [execBldIcmpReply, State.ipPayloadLen_eq]
  congr 1
  by_cases hshort : s.flen < 34
  · rw [if_pos hshort, if_pos (.inl hshort)]
  · rw [if_neg hshort]
    by_cases hlen : 4 * s.loNibble 14 ≤ s.memRead 16 2
    · rw [if_pos ⟨by omega, hlen⟩]
      exact if_congr (by omega) rfl rfl
    · rw [if_neg (fun h => hlen h.2), if_pos (by omega)]

section
variable {s : State} {n : Nat}

/-- What the checksums leave of the typed reply. -/
theorem State.byteAt_icmpReplied {x : Nat} (hip : x < 24 ∨ 26 ≤ x) (hicmp : x < s.l4 + 2 ∨ s.l4 + 4 ≤ x) :
    (s.icmpReplied n).byteAt x = (s.icmpTyped n).byteAt x := by
  rw [State.icmpReplied, State.byteAt_memWrite_of_not (by omega), State.byteAt_withAcc, State.byteAt_ipSealed hip]

/-- A byte that the reply keeps from the request with its addresses exchanged. -/
theorem State.byteAt_icmpReplied_returned {x : Nat} (hip : x < 24 ∨ 26 ≤ x)
    (hicmp : x ≠ s.l4 ∧ x ≠ s.l4 + 2 ∧ x ≠ s.l4 + 3) : (s.icmpReplied n).byteAt x = s.returned.byteAt x := by
  rw [State.byteAt_icmpReplied hip (by omega), State.icmpTyped, State.byteAt_setFlen,
    State.byteAt_memWrite_of_not (by omega)]

/-- A byte that the reply keeps from the request (R346). -/
theorem State.byteAt_icmpReplied_kept {x : Nat}
    (h : (12 ≤ x ∧ x < 24) ∨ (34 ≤ x ∧ x ≠ s.l4 ∧ x ≠ s.l4 + 2 ∧ x ≠ s.l4 + 3)) (h34 : 34 ≤ s.l4) :
    (s.icmpReplied n).byteAt x = s.byteAt x := by
  rw [State.byteAt_icmpReplied_returned (by omega) (by omega), State.byteAt_returned (by omega)]

theorem State.flen_icmpTyped (hlen : s.l4 + n < 65536) : (s.icmpTyped n).flen = s.l4 + n := State.flen_setFlen hlen _

theorem State.flen_icmpReplied (hlen : s.l4 + n < 65536) : (s.icmpReplied n).flen = s.l4 + n := by
  rw [State.icmpReplied, State.flen_memWrite, State.flen_withAcc, State.flen_ipSealed, State.flen_icmpTyped hlen]

/-- The ICMP sum leaves its own field out, so the checksum does not change it. -/
theorem State.icmpSum_icmpReplied : (s.icmpReplied n).icmpSum s.l4 n = ((s.icmpTyped n).ipSealed).icmpSum s.l4 n := by
  rw [State.icmpSum, State.icmpReplied, State.frameSum_memWrite_of_disjoint (by omega),
    State.frameSum_memWrite_of_disjoint (by omega), State.frameSum_withAcc, State.frameSum_withAcc, State.icmpSum]

theorem State.memRead_icmpReplied_csum :
    (s.icmpReplied n).memRead (s.l4 + 2) 2 = 65535 - onesFold ((s.icmpReplied n).icmpSum s.l4 n) := by
  rw [State.icmpSum_icmpReplied]
  exact State.memRead_memWrite _ _ _ (by omega) _

theorem State.sum_icmpReplied :
    (s.icmpReplied n).sum = BitVec.ofNat 32 (onesFold ((s.icmpReplied n).icmpSum s.l4 n)) := by
  rw [State.icmpSum_icmpReplied]
  rfl

theorem State.phase_icmpReplied : (s.icmpReplied n).phase = decide (n % 2 = 1) := rfl

section
variable (h34 : 34 ≤ s.l4)
include h34

theorem State.l4_icmpTyped : (s.icmpTyped n).l4 = s.l4 := by
  rw [State.icmpTyped, State.l4_setFlen, State.l4_memWrite_of_not (by omega), State.l4_returned]

theorem State.loNibble_icmpReplied : (s.icmpReplied n).loNibble 14 = s.loNibble 14 := by
  rw [State.loNibble, State.byteAt_icmpReplied_kept (by omega) h34, State.loNibble]

theorem State.byteAt_icmpReplied_type : (s.icmpReplied n).byteAt s.l4 = 0 := by
  rw [State.byteAt_icmpReplied (by omega) (by omega), State.icmpTyped, State.byteAt_setFlen,
    State.byteAt_memWrite_of_mem _ (by omega)]
  simp

theorem State.returns_icmpReplied : (s.icmpReplied n).Returns s :=
  .of_byteAt fun _ hx => State.byteAt_icmpReplied_returned (by omega) (by omega)

theorem State.headerSealed_icmpReplied : (s.icmpReplied n).HeaderSealed := by
  have hl4 := State.l4_icmpTyped (n := n) h34
  have hihl := (s.icmpTyped n).l4_eq
  refine .of_byteAt (s := s.icmpTyped n) (by omega) fun x h14 hx => ?_
  rw [State.icmpReplied, State.byteAt_memWrite_of_not (by omega), State.byteAt_withAcc]

/-- Both checksums complete: the header and the message are in frame (R346). -/
theorem icmpReply_eq (hn : 8 ≤ n) (hlen : s.l4 + n < 65536) : icmpReply n s = some (s.icmpReplied n) := by
  have hl4 := State.l4_icmpTyped (n := n) h34
  have hihl := (s.icmpTyped n).l4_eq
  have hflen := State.flen_icmpTyped hlen
  have hsealed : sealIp (s.icmpTyped n) = some (s.icmpTyped n).ipSealed :=
    sealIp_eq (by omega) (by omega)
  have hckIcmp := ckIcmpGen_of_le (s := (s.icmpTyped n).ipSealed) hn
    (by rw [State.l4_ipSealed, State.flen_ipSealed]; omega)
  have htyped : ((s.returned).storeField .icmpType 0).setFlen (s.l4 + n) = s.icmpTyped n := by
    rw [State.storeField_icmpType, State.l4_returned, State.icmpTyped]
  simp only [icmpReply, State.swapAddresses_eq]
  rw [htyped, hsealed, Option.bind_some, hckIcmp, storeChecksum_some, State.storeField_icmpCsum, State.l4_withAcc,
    State.l4_ipSealed, hl4, checksum_toNat, State.icmpReplied, State.icmpSum]

end

end

/-- Settles O42: past the checks the reply is `icmpReplied`, and a byte that no stage writes is the request's. -/
theorem icmpReplyBuilds : Obligations.IcmpReplyBuilds := by
  intro s
  simp only [show (s.byteAt 14).toNat % 16 = s.loNibble 14 from rfl, show 14 + 4 * s.loNibble 14 = s.l4 from rfl]
  refine ⟨fun hgood hihl => ?_, fun hbad => by rw [exec_bldIcmpReply, if_pos hbad]; rfl⟩
  rw [exec_bldIcmpReply, if_neg hgood]
  obtain ⟨n, hn⟩ : ∃ n, n = s.memRead 16 2 - 4 * s.loNibble 14 := ⟨_, rfl⟩
  have h34 : 34 ≤ s.l4 := State.l4_ge_of_ihl hihl
  have hl4 : s.l4 = 14 + 4 * s.loNibble 14 := s.l4_eq
  have hcap : s.flen < 65536 := s.flen_lt
  have hlen : s.l4 + n < 65536 := by omega
  have hreply : icmpReply n s = some (s.icmpReplied n) := icmpReply_eq h34 (by omega) hlen
  have hregs := (icmpReply_rebuilt hreply).built_eq (State.flen_icmpReplied hlen)
  have haddr : (s.icmpReplied n).Returns s := State.returns_icmpReplied h34
  rw [State.sum_icmpReplied, State.phase_icmpReplied, State.icmpSum] at hregs
  rw [← hn, show 14 + s.memRead 16 2 = s.l4 + n by omega, hreply, endBuild_some]
  refine ⟨_, rfl, ?_⟩
  simp only [State.memRead_built, State.byteAt_built, State.frameSum_built]
  exact ⟨hregs, haddr.ethDst, haddr.ethSrc, haddr.ipSrc, haddr.ipDst, State.byteAt_icmpReplied_type h34,
    (State.headerSealed_icmpReplied h34).ipCsum (State.loNibble_icmpReplied h34), State.memRead_icmpReplied_csum,
    fun x hx => State.byteAt_icmpReplied_kept hx h34⟩

end Sys2Proof.Machine
end

section
/-! PROOF. BLD_UDP_REPLY (R347): the reply as one equation, stage by stage, and which bytes a later stage leaves as an earlier
one made them. -/

namespace Sys2Proof.Machine

/-- The addresses and ports exchanged, both lengths and the payload written (R347). -/
def State.udpFilled (payload : List Byte) (s : State) : State :=
  ((((s.returned.exchange s.l4 (s.l4 + 2) 2).setFlen (s.l4 + 8 + payload.length)).memWrite (s.l4 + 4) 2
    (8 + payload.length)).memWrite 16 2 (s.l4 - 14 + 8 + payload.length)).storeBytes (s.l4 + 8) payload

/-- The sum that the UDP checksum of a datagram from `l4` with `p` bytes of payload is taken of: the pseudo-header and the
datagram without its checksum field (R158, R165). -/
def State.udpSum (l4 p : Nat) (s : State) : Nat :=
  s.frameSum 26 8 + 0x11 + (8 + p) + s.frameSum l4 6 + s.frameSum (l4 + 8) p

/-- The filled reply with its IP header sealed and its UDP checksum field 0. -/
def State.udpSealed (payload : List Byte) (s : State) : State := (s.udpFilled payload).ipSealed.memWrite (s.l4 + 6) 2 0

/-- The reply of R347, with the accumulator as the UDP sum leaves it. -/
def State.udpReplied (payload : List Byte) (s : State) : State :=
  let t := s.udpSealed payload
  (t.withAcc ⟨BitVec.ofNat 32 (onesFold (t.udpSum s.l4 payload.length)), decide (payload.length % 2 = 1)⟩).memWrite
    (s.l4 + 6) 2 (65535 - onesFold (t.udpSum s.l4 payload.length))

theorem exec_bldUdpReply (s : State) (p : Nat) :
    exec (.bldUdpReply p) s =
      .next (if s.flen < 34 ∨ s.flen < s.l4 + 8 ∨ 1522 < s.l4 + 8 + p then s.raise .errBounds
        else endBuild s (udpReply (streamBytes s.s0 p) s)) := by
  show execBldUdpReply p s = _
  rw [execBldUdpReply, show Config.bufCap = 1522 from rfl]
  congr 1
  by_cases hshort : s.flen < 34 ∨ s.flen < s.l4 + 8
  · rw [if_pos hshort, if_pos (by omega)]
  · rw [if_neg hshort]
    exact if_congr (by omega) rfl rfl

section
variable {s : State} {payload : List Byte}

theorem State.byteAt_udpSealed {x : Nat} (hudp : x < s.l4 + 6 ∨ s.l4 + 8 ≤ x) :
    (s.udpSealed payload).byteAt x = (s.udpFilled payload).ipSealed.byteAt x := by
  rw [State.udpSealed, State.byteAt_memWrite_of_not (by omega)]

theorem State.byteAt_udpReplied_sealed {x : Nat} (hudp : x < s.l4 + 6 ∨ s.l4 + 8 ≤ x) :
    (s.udpReplied payload).byteAt x = (s.udpFilled payload).ipSealed.byteAt x := by
  rw [State.udpReplied, State.byteAt_memWrite_of_not (by omega), State.byteAt_withAcc, State.byteAt_udpSealed hudp]

/-- What the checksums leave of the filled reply. -/
theorem State.byteAt_udpReplied {x : Nat} (hip : x < 24 ∨ 26 ≤ x) (hudp : x < s.l4 + 6 ∨ s.l4 + 8 ≤ x) :
    (s.udpReplied payload).byteAt x = (s.udpFilled payload).byteAt x := by
  rw [State.byteAt_udpReplied_sealed hudp, State.byteAt_ipSealed hip]

/-- A byte that the reply keeps from the request with its addresses exchanged. -/
theorem State.byteAt_udpReplied_returned {x : Nat} (hlen : x < 16 ∨ 18 ≤ x) (hip : x < 24 ∨ 26 ≤ x)
    (hudp : x < s.l4 ∨ s.l4 + 8 + payload.length ≤ x) : (s.udpReplied payload).byteAt x = s.returned.byteAt x := by
  rw [State.byteAt_udpReplied hip (by omega), State.udpFilled, State.byteAt_storeBytes_of_not (by omega),
    State.byteAt_memWrite_of_not (by omega), State.byteAt_memWrite_of_not (by omega), State.byteAt_setFlen,
    State.byteAt_exchange_of_not (by omega) (by omega)]

/-- A number of the filled reply that no checksum and no later write meets. -/
theorem State.memRead_udpReplied {a n : Nat} (hip : a + n ≤ 24 ∨ 26 ≤ a) (hudp : a + n ≤ s.l4 + 6 ∨ s.l4 + 8 ≤ a) :
    (s.udpReplied payload).memRead a n = (s.udpFilled payload).memRead a n :=
  State.memRead_congr fun _ _ => State.byteAt_udpReplied (by omega) (by omega)

/-- The payload is where R347 puts it. -/
theorem State.payload_udpReplied {k : Nat} (h34 : 34 ≤ s.l4) (hk : k < payload.length) :
    payload[k]? = some ((s.udpReplied payload).byteAt (s.l4 + 8 + k)) := by
  rw [State.byteAt_udpReplied (by omega) (by omega), State.udpFilled, State.byteAt_storeBytes, if_pos (by omega),
    Nat.add_sub_cancel_left, List.getD_eq_getElem _ _ hk, List.getElem?_eq_getElem hk]

/-- The UDP sum leaves its own field out, so writes there do not change it. -/
theorem State.udpSum_memWrite {t : State} {l4 p v : Nat} (h34 : 34 ≤ l4) :
    (t.memWrite (l4 + 6) 2 v).udpSum l4 p = t.udpSum l4 p := by
  rw [State.udpSum, State.frameSum_memWrite_of_disjoint (by omega), State.frameSum_memWrite_of_disjoint (by omega),
    State.frameSum_memWrite_of_disjoint (by omega), State.udpSum]

theorem State.flen_udpFilled (hcap : s.l4 + 8 + payload.length < 65536) :
    (s.udpFilled payload).flen = s.l4 + 8 + payload.length := by
  rw [State.udpFilled, State.flen_storeBytes, State.flen_memWrite, State.flen_memWrite, State.flen_setFlen hcap]

theorem State.flen_udpSealed (hcap : s.l4 + 8 + payload.length < 65536) :
    (s.udpSealed payload).flen = s.l4 + 8 + payload.length := by
  rw [State.udpSealed, State.flen_memWrite, State.flen_ipSealed, State.flen_udpFilled hcap]

theorem State.flen_udpReplied (hcap : s.l4 + 8 + payload.length < 65536) :
    (s.udpReplied payload).flen = s.l4 + 8 + payload.length := by
  rw [State.udpReplied, State.flen_memWrite, State.flen_withAcc, State.flen_udpSealed hcap]

theorem State.phase_udpReplied : (s.udpReplied payload).phase = decide (payload.length % 2 = 1) := rfl

theorem State.udpSum_withAcc (c : Acc) (t : State) (l4 p : Nat) : (t.withAcc c).udpSum l4 p = t.udpSum l4 p := rfl

/-- The UDP checksum of a datagram in frame whose checksum field is 0 (R165). -/
theorem ckUdp_of_csum_zero {t : State} {p : Nat} (h34 : 34 ≤ t.flen) (hin : t.l4 + (8 + p) ≤ t.flen)
    (hlen : t.memRead (t.l4 + 4) 2 = 8 + p) (hzero : t.memRead (t.l4 + 6) 2 = 0) :
    ckUdp t =
      ⟨⟨BitVec.ofNat 32 (onesFold (t.udpSum t.l4 p)), decide (p % 2 = 1)⟩,
        some (BitVec.ofNat 16 (65535 - onesFold (t.udpSum t.l4 p)))⟩ := by
  have hcap : t.flen < 65536 := t.flen_lt
  have hparity : decide ((8 + p) % 2 = 1) = decide (p % 2 = 1) := by congr 1; apply propext; omega
  have hskip : t.frameSum t.l4 (8 + p) = t.frameSum t.l4 6 + t.frameSum (t.l4 + 8) p :=
    State.frameSum_skip (k := 6) rfl hzero
  rw [ckUdp_of_length (by omega) (by omega), hlen, ckTransport_eq _ _ _ (by omega), if_neg (by omega), if_neg (by omega),
    hskip, hparity, ← Nat.add_assoc]
  rfl

theorem State.memRead_storeBytes_of_disjoint {t : State} {a b m : Nat} {bs : List Byte}
    (h : b + m ≤ a ∨ a + bs.length ≤ b) : (t.storeBytes a bs).memRead b m = t.memRead b m :=
  State.memRead_congr fun _ _ => State.byteAt_storeBytes_of_not (by omega)

section
variable (h34 : 34 ≤ s.l4)
include h34

/-- A byte that the reply keeps from the request (R347). -/
theorem State.byteAt_udpReplied_kept {x : Nat}
    (h : (12 ≤ x ∧ x < 16) ∨ (18 ≤ x ∧ x < 24) ∨ (34 ≤ x ∧ x < s.l4) ∨ s.l4 + 8 + payload.length ≤ x) :
    (s.udpReplied payload).byteAt x = s.byteAt x := by
  rw [State.byteAt_udpReplied_returned (by omega) (by omega) (by omega), State.byteAt_returned (by omega)]

theorem State.loNibble_udpReplied : (s.udpReplied payload).loNibble 14 = s.loNibble 14 := by
  rw [State.loNibble, State.byteAt_udpReplied_kept h34 (by omega), State.loNibble]

theorem State.l4_udpFilled : (s.udpFilled payload).l4 = s.l4 := by
  refine State.l4_congr ?_
  rw [← State.byteAt_udpReplied (by omega) (by omega), State.byteAt_udpReplied_kept h34 (by omega)]

theorem State.l4_udpSealed : (s.udpSealed payload).l4 = s.l4 := by
  rw [State.udpSealed, State.l4_memWrite_of_not (by omega), State.l4_ipSealed, State.l4_udpFilled h34]

theorem State.udpSum_udpReplied :
    (s.udpReplied payload).udpSum s.l4 payload.length = (s.udpSealed payload).udpSum s.l4 payload.length := by
  rw [State.udpReplied, State.udpSum_memWrite h34, State.udpSum_withAcc]

theorem State.memRead_udpReplied_csum :
    (s.udpReplied payload).memRead (s.l4 + 6) 2 =
      65535 - onesFold ((s.udpReplied payload).udpSum s.l4 payload.length) := by
  rw [State.udpSum_udpReplied h34]
  exact State.memRead_memWrite _ _ _ (by omega) _

theorem State.sum_udpReplied :
    (s.udpReplied payload).sum = BitVec.ofNat 32 (onesFold ((s.udpReplied payload).udpSum s.l4 payload.length)) := by
  rw [State.udpSum_udpReplied h34]
  rfl

theorem State.returns_udpReplied : (s.udpReplied payload).Returns s :=
  .of_byteAt fun _ hx => State.byteAt_udpReplied_returned (by omega) (by omega) (by omega)

theorem State.headerSealed_udpReplied : (s.udpReplied payload).HeaderSealed := by
  have hl4 := State.l4_udpFilled (payload := payload) h34
  have hihl := (s.udpFilled payload).l4_eq
  exact .of_byteAt (s := s.udpFilled payload) (by omega) fun x _ hx => State.byteAt_udpReplied_sealed (by omega)

/-- The two port fields of the reply, as the exchange left them. -/
theorem State.memRead_udpReplied_port {a : Nat} (ha : s.l4 ≤ a ∧ a + 2 ≤ s.l4 + 4) :
    (s.udpReplied payload).memRead a 2 = (s.returned.exchange s.l4 (s.l4 + 2) 2).memRead a 2 := by
  rw [State.memRead_udpReplied (by omega) (by omega), State.udpFilled, State.memRead_storeBytes_of_disjoint (by omega),
    State.memRead_memWrite_of_disjoint (by omega), State.memRead_memWrite_of_disjoint (by omega), State.memRead_setFlen]

/-- The ports are those of the request, exchanged (R347). -/
theorem State.ports_udpReplied :
    (s.udpReplied payload).memRead s.l4 2 = s.memRead (s.l4 + 2) 2 ∧
      (s.udpReplied payload).memRead (s.l4 + 2) 2 = s.memRead s.l4 2 := by
  have hport : ∀ a, 34 ≤ a → s.returned.memRead a 2 = s.memRead a 2 := fun a ha =>
    State.memRead_congr fun _ _ => State.byteAt_returned (by omega)
  rw [State.memRead_udpReplied_port h34 (by omega), State.memRead_udpReplied_port h34 (by omega),
    State.memRead_exchange_left (by omega), State.memRead_exchange_right, hport _ h34, hport _ (by omega)]
  exact ⟨rfl, rfl⟩

section
variable (hcap : s.l4 + 8 + payload.length < 65536)
include hcap

theorem State.udpLen_udpFilled : (s.udpFilled payload).memRead (s.l4 + 4) 2 = 8 + payload.length := by
  rw [State.udpFilled, State.memRead_storeBytes_of_disjoint (by omega), State.memRead_memWrite_of_disjoint (by omega),
    State.memRead_memWrite _ _ _ (by omega)]

theorem State.ipLen_udpFilled : (s.udpFilled payload).memRead 16 2 = s.l4 - 14 + 8 + payload.length := by
  rw [State.udpFilled, State.memRead_storeBytes_of_disjoint (by omega), State.memRead_memWrite _ _ _ (by omega)]

theorem State.udpLen_udpReplied : (s.udpReplied payload).memRead (s.l4 + 4) 2 = 8 + payload.length :=
  (State.memRead_udpReplied (by omega) (by omega)).trans (State.udpLen_udpFilled h34 hcap)

theorem State.ipLen_udpReplied : (s.udpReplied payload).memRead 16 2 = s.l4 - 14 + 8 + payload.length :=
  (State.memRead_udpReplied (by omega) (by omega)).trans (State.ipLen_udpFilled h34 hcap)

/-- The UDP checksum over the sealed reply. -/
theorem ckUdp_udpSealed :
    ckUdp (s.udpSealed payload) =
      ⟨⟨BitVec.ofNat 32 (onesFold ((s.udpSealed payload).udpSum s.l4 payload.length)), decide (payload.length % 2 = 1)⟩,
        some (BitVec.ofNat 16 (65535 - onesFold ((s.udpSealed payload).udpSum s.l4 payload.length)))⟩ := by
  have hl4 := State.l4_udpSealed (payload := payload) h34
  have hflen := State.flen_udpSealed hcap
  have hlen : (s.udpSealed payload).memRead (s.l4 + 4) 2 = 8 + payload.length := by
    rw [State.udpSealed, State.memRead_memWrite_of_disjoint (by omega),
      State.memRead_congr fun _ _ => State.byteAt_ipSealed (by omega), State.udpLen_udpFilled h34 hcap]
  have hzero : (s.udpSealed payload).memRead (s.l4 + 6) 2 = 0 := State.memRead_memWrite _ _ _ (by norm_num) _
  rw [ckUdp_of_csum_zero (t := s.udpSealed payload) (p := payload.length) (by omega) (by omega) (by rw [hl4, hlen])
    (by rw [hl4, hzero]), hl4]

/-- Both checksums complete: the header and the datagram are in frame (R347). -/
theorem udpReply_eq : udpReply payload s = some (s.udpReplied payload) := by
  have hl4 := State.l4_udpFilled (payload := payload) h34
  have hihl := (s.udpFilled payload).l4_eq
  have hflen := State.flen_udpFilled hcap
  have hl4swap : (s.returned.exchange s.l4 (s.l4 + 2) 2).l4 = s.l4 :=
    (State.l4_congr (State.byteAt_exchange_of_not (by omega) (by omega))).trans s.l4_returned
  have hfilled : ((((s.returned.swapFields .udpSport .udpDport).setFlen (s.l4 + 8 + payload.length)).storeField .udpLen
      (8 + payload.length)).storeField .ipLen (s.l4 - 14 + 8 + payload.length)).storeBytes (s.l4 + 8) payload =
      s.udpFilled payload := by
    rw [State.swapPorts_eq, State.l4_returned, State.storeField_ipLen, State.storeField_udpLen, State.l4_setFlen, hl4swap,
      State.udpFilled]
  have hsealed : sealIp (s.udpFilled payload) = some (s.udpFilled payload).ipSealed :=
    sealIp_eq (by omega) (by omega)
  simp only [udpReply, State.swapAddresses_eq]
  rw [hfilled, hsealed, Option.bind_some, State.storeField_udpCsum, State.l4_ipSealed, hl4, ← State.udpSealed,
    ckUdp_udpSealed h34 hcap, storeChecksum_some, State.storeField_udpCsum, State.l4_withAcc, State.l4_udpSealed h34,
    checksum_toNat, State.udpReplied]

end

end

end

/-- Settles O43: past the checks the reply is `udpReplied` of the stream's bytes, and a byte that no stage writes is the
request's. -/
theorem udpReplyBuilds : Obligations.UdpReplyBuilds := by
  intro s p
  simp only [show (s.byteAt 14).toNat % 16 = s.loNibble 14 from rfl, show 14 + 4 * s.loNibble 14 = s.l4 from rfl]
  refine ⟨fun hgood hihl hp => ?_, fun hbad => by rw [exec_bldUdpReply, if_pos hbad]; rfl⟩
  subst hp
  have h34 : 34 ≤ s.l4 := State.l4_ge_of_ihl hihl
  have hl4 : s.l4 = 14 + 4 * s.loNibble 14 := s.l4_eq
  have hcap : s.l4 + 8 + s.s0.length < 65536 := by omega
  have hreply : udpReply s.s0 s = some (s.udpReplied s.s0) := udpReply_eq h34 hcap
  have hregs := (udpReply_rebuilt hreply).built_eq (State.flen_udpReplied hcap)
  have haddr : (s.udpReplied s.s0).Returns s := State.returns_udpReplied h34
  obtain ⟨hsport, hdport⟩ := State.ports_udpReplied (s := s) (payload := s.s0) h34
  rw [State.sum_udpReplied h34, State.phase_udpReplied, State.udpSum] at hregs
  rw [exec_bldUdpReply, if_neg hgood, streamBytes_exact, hreply, endBuild_some]
  refine ⟨_, rfl, ?_⟩
  simp only [State.memRead_built, State.byteAt_built, State.frameSum_built]
  exact ⟨hregs, haddr.ethDst, haddr.ethSrc, haddr.ipSrc, haddr.ipDst, hsport, hdport, State.udpLen_udpReplied h34 hcap,
    (State.ipLen_udpReplied h34 hcap).trans (by omega), fun _ => State.payload_udpReplied h34,
    (State.headerSealed_udpReplied h34).ipCsum (State.loNibble_udpReplied h34), State.memRead_udpReplied_csum h34,
    fun x hx => State.byteAt_udpReplied_kept h34 hx⟩

end Sys2Proof.Machine
end

section
/-! PROOF. Every IP frame that a builder has built passes IS_IP (R304, R340, R341): the emitter's frames, then the
responders'. -/

namespace Sys2Proof.Machine

/-! ### The emitter's frames -/

/-- A frame that carries a segment has a 20-byte header, sealed (R350). -/
theorem State.Carries.ipFramed {t s : State} {g : Segment} (h : t.Carries s g) (hlen : t.flen = 34 + g.tcpLen) :
    t.IpFramed := by
  have hihl : t.loNibble 14 = 5 := by rw [State.loNibble, h.verIhl]; rfl
  have hl4 : t.l4 = 34 := by rw [State.l4_eq, hihl]
  refine ⟨h.ethType, by omega, by omega, ?_, by rw [h.ipLen]; omega⟩
  rw [State.HeaderSealed, State.headerSum, hihl]
  exact h.ipCsum

/-- What BLD_TCP_SYN leaves (R352). -/
theorem bldTcpSyn_ipFramed {s t : State} (h : exec .bldTcpSyn s = .next t) : t.IpFramed := by
  obtain ⟨u, hu, hregs, hcarries⟩ := bldTcpSyn_emits s
  cases h.symm.trans hu
  exact hcarries.ipFramed (by rw [s.synSegment_tcpLen, hregs]; rfl)

/-- What BLD_TCP_ACK leaves (R353). -/
theorem bldTcpAck_ipFramed {s t : State} (h : exec .bldTcpAck s = .next t) : t.IpFramed := by
  obtain ⟨u, hu, hregs, hcarries⟩ := bldTcpAck_emits s
  cases h.symm.trans hu
  exact hcarries.ipFramed (by rw [hregs]; rfl)

/-- Each MQTT builder is `mqtt_segment` of some control byte and variable part (R354). -/
theorem exec_mqttBuilder {i : Instr} (hi : isMqttBuilder i) (s : State) :
    ∃ control body, exec i s = .next (mqttSegment control body s) := by
  rcases hi with rfl | ⟨n, m, rfl⟩ | ⟨n, rfl⟩ | ⟨n, rfl⟩ | rfl | rfl <;> exact ⟨_, _, rfl⟩

/-- What an MQTT builder leaves when its variable part is short enough (R354). -/
theorem mqttBuilder_ipFramed {i : Instr} {s t : State} (hi : isMqttBuilder i) (h : exec i s = .next t)
    (hok : t.status = .ok) : t.IpFramed := by
  obtain ⟨control, body, hexec⟩ := exec_mqttBuilder hi s
  obtain rfl := Host.Outcome.next.inj (h.symm.trans hexec)
  by_cases hbody : body.length ≤ 127
  · obtain ⟨u, hu, hregs, hcarries⟩ := mqttSegment_emits (control := control) (s := s) hbody
    rw [hu]
    refine hcarries.ipFramed ?_
    rw [State.mqttReply_tcpLen, hregs, State.flen, BitVec.toNat_ofNat]
    omega
  · rw [mqttSegment_of_lt (Nat.not_le.1 hbody)] at hok
    cases hok

/-! ### The responders' frames -/

/-- What BLD_ICMP_REPLY leaves of an IPv4 frame with a whole header (R346). -/
theorem bldIcmpReply_ipFramed {s t : State} (hihl : 5 ≤ s.loNibble 14) (htype : s.memRead 12 2 = 0x0800)
    (h : exec .bldIcmpReply s = .next t) (hok : t.status = .ok) : t.IpFramed := by
  have h34 : 34 ≤ s.l4 := State.l4_ge_of_ihl hihl
  have hl4 : s.l4 = 14 + 4 * s.loNibble 14 := s.l4_eq
  have hcap : s.flen < 65536 := s.flen_lt
  rw [exec_bldIcmpReply] at h
  split at h
  · cases h; cases hok
  next hgood =>
    obtain ⟨n, hn⟩ : ∃ n, n = s.memRead 16 2 - 4 * s.loNibble 14 := ⟨_, rfl⟩
    have hlen : s.l4 + n < 65536 := by omega
    rw [← hn, icmpReply_eq h34 (by omega) hlen, endBuild_some] at h
    obtain rfl := Host.Outcome.next.inj h
    have hkept : ∀ a, 12 ≤ a ∧ a + 2 ≤ 24 → (s.icmpReplied n).memRead a 2 = s.memRead a 2 := fun a ha =>
      State.memRead_congr fun _ _ => State.byteAt_icmpReplied_kept (by omega) h34
    have hihl' := State.loNibble_icmpReplied (n := n) h34
    have hl4' := (s.icmpReplied n).l4_eq
    have hflen := State.flen_icmpReplied hlen
    exact State.IpFramed.built ⟨(hkept 12 (by omega)).trans htype, by omega, by omega, State.headerSealed_icmpReplied h34,
      by rw [hkept 16 (by omega)]; omega⟩

/-- What BLD_UDP_REPLY leaves of an IPv4 frame with a whole header (R347). -/
theorem bldUdpReply_ipFramed {s t : State} {p : Nat} (hihl : 5 ≤ s.loNibble 14) (htype : s.memRead 12 2 = 0x0800)
    (h : exec (.bldUdpReply p) s = .next t) (hok : t.status = .ok) : t.IpFramed := by
  have h34 : 34 ≤ s.l4 := State.l4_ge_of_ihl hihl
  rw [exec_bldUdpReply] at h
  split at h
  · cases h; cases hok
  next hgood =>
    obtain ⟨payload, hpayload⟩ : ∃ payload, payload = streamBytes s.s0 p := ⟨_, rfl⟩
    have hp : payload.length = p := by rw [hpayload, streamBytes_length]
    have hcap : s.l4 + 8 + payload.length < 65536 := by omega
    rw [← hpayload, udpReply_eq h34 hcap, endBuild_some] at h
    obtain rfl := Host.Outcome.next.inj h
    have htype' : (s.udpReplied payload).memRead 12 2 = s.memRead 12 2 :=
      State.memRead_congr fun _ _ => State.byteAt_udpReplied_kept h34 (by omega)
    have hihl' := State.loNibble_udpReplied (payload := payload) h34
    have hl4' := (s.udpReplied payload).l4_eq
    have hl4 : s.l4 = 14 + 4 * s.loNibble 14 := s.l4_eq
    have hflen := State.flen_udpReplied hcap
    exact State.IpFramed.built ⟨htype'.trans htype, by omega, by omega, State.headerSealed_udpReplied h34,
      by rw [State.ipLen_udpReplied h34 hcap]; omega⟩

/-- Settles O46, builder by builder: what each leaves is framed, and a framed frame passes IS_IP. -/
theorem builtFramesPassIsIp : Obligations.BuiltFramesPassIsIp := by
  intro i s t u hi hresponder ht hok hu
  have hframed : t.IpFramed := by
    rcases hi with rfl | ⟨p, rfl⟩ | rfl | rfl | hmqtt
    · obtain ⟨hihl, htype⟩ := hresponder (.inl rfl)
      exact bldIcmpReply_ipFramed hihl htype ht hok
    · obtain ⟨hihl, htype⟩ := hresponder (.inr ⟨p, rfl⟩)
      exact bldUdpReply_ipFramed hihl htype ht hok
    · exact bldTcpSyn_ipFramed ht
    · exact bldTcpAck_ipFramed ht
    · exact mqttBuilder_ipFramed hmqtt ht hok
  exact ⟨hframed.isIp hu, hframed.length⟩

end Sys2Proof.Machine
end

section
/-! PROOF. The session: the rows of the transition table (R386 to R394, R398), REQ and STEP equation by equation, what they
keep from reset on (R399), the stall of a waiting session (R402), and its progression (R403). -/

namespace Sys2Proof.Machine

/-! ### The rows of the transition table (R386 to R394, R398) -/

theorem frameTrigger_iff {cls : BitVec 14} {fresh : Bool} {k : Nat} :
    frameTrigger cls fresh k = true ↔ fresh = true ∧ cls.getLsbD k = true := Bool.and_eq_true_iff

/-- The row of a state that waits for a frame: the frame trigger of bit `k` moves the session on, and nothing else does. -/
def Awaits (q : BitVec 2) (st : BitVec 4) (k : Nat) (st' : BitVec 4) (sel : Data) : Prop :=
  ∀ (cls : BitVec 14) (fresh tw : Bool),
    transition st q cls fresh tw = if frameTrigger cls fresh k then ⟨st', q, sel⟩ else ⟨st, q, selNone⟩

theorem awaits_synSent (q : BitVec 2) : Awaits q ssSynSent 6 ssEstablished selAck := fun _ _ _ => rfl

theorem awaits_publishingMqtt (q : BitVec 2) : Awaits q ssPublishingMqtt 10 ssDisconnectRequested (publishSelection q) :=
  fun _ _ _ => rfl

theorem awaits_disconnectRequested (q : BitVec 2) : Awaits q ssDisconnectRequested 7 ssFinWait1 selDisconnect :=
  fun _ _ _ => rfl

theorem awaits_finWait1 (q : BitVec 2) : Awaits q ssFinWait1 9 ssFinWait2 selNone := fun _ _ _ => rfl

section
variable {q : BitVec 2} {st st' : BitVec 4} {k : Nat} {sel : Data} {cls : BitVec 14} {fresh : Bool}

theorem Awaits.moves (h : Awaits q st k st' sel) (tw : Bool) (ht : fresh = true ∧ cls.getLsbD k = true) :
    transition st q cls fresh tw = ⟨st', q, sel⟩ := by
  rw [h, if_pos (frameTrigger_iff.2 ht)]

theorem Awaits.stays (h : Awaits q st k st' sel) (tw : Bool) (ht : ¬ (fresh = true ∧ cls.getLsbD k = true)) :
    transition st q cls fresh tw = ⟨st, q, selNone⟩ := by
  rw [h, if_neg (mt frameTrigger_iff.1 ht)]

end

section
variable (q : BitVec 2) (cls : BitVec 14) (fresh tw : Bool)

theorem transition_closed : transition ssClosed q cls fresh tw = ⟨ssSynSent, q, selSyn⟩ := rfl

theorem transition_synAckReceived : transition ssSynAckReceived q cls fresh tw = ⟨ssEstablished, q, selAck⟩ := rfl

theorem transition_established : transition ssEstablished q cls fresh tw = ⟨ssPublishingMqtt, q, selConnect⟩ := rfl

theorem transition_finWait2 : transition ssFinWait2 q cls fresh tw = ⟨ssTimeWait, q, selAck⟩ := rfl

theorem transition_timeWait_elapsed (h : tw = true) : transition ssTimeWait q cls fresh tw = ⟨ssClosed, reqNone, selNone⟩ :=
  h ▸ rfl

theorem transition_timeWait_running (h : tw = false) : transition ssTimeWait q cls fresh tw = ⟨ssTimeWait, q, selNone⟩ :=
  h ▸ rfl

/-- The states in which the session waits for a frame do not move without a fresh classification (R383, R402). -/
theorem transition_of_not_fresh {st : BitVec 4} (h : st ∈ [ssSynSent, ssPublishingMqtt, ssDisconnectRequested, ssFinWait1]) :
    transition st q cls false tw = ⟨st, q, selNone⟩ := by
  have hno : ∀ k, ¬ (false = true ∧ cls.getLsbD k = true) := fun _ ht => Bool.false_ne_true ht.1
  simp only [List.mem_cons, List.not_mem_nil, or_false] at h
  rcases h with rfl | rfl | rfl | rfl
  · exact (awaits_synSent q).stays tw (hno 6)
  · exact (awaits_publishingMqtt q).stays tw (hno 10)
  · exact (awaits_disconnectRequested q).stays tw (hno 7)
  · exact (awaits_finWait1 q).stays tw (hno 9)

end

/-- Where a transition can lead, by what it keeps: a session that goes on keeps its request, and enters neither
SynAckReceived nor a reserved code (R399). -/
inductive Transition.Follows (st : BitVec 4) (q : BitVec 2) : Transition → Prop
  /-- The session waits. -/
  | stays : Follows st q ⟨st, q, selNone⟩
  /-- The session is over, and its request with it (R394). -/
  | ends : Follows st q ⟨ssClosed, reqNone, selNone⟩
  /-- The session goes on. -/
  | goes {st' : BitVec 4} (sel : Data) (hrec : st' ≠ ssSynAckReceived) (hle : st'.toNat ≤ 8) : Follows st q ⟨st', q, sel⟩

theorem Awaits.follows {q : BitVec 2} {st st' : BitVec 4} {k : Nat} {sel : Data} (h : Awaits q st k st' sel)
    (hrec : st' ≠ ssSynAckReceived) (hle : st'.toNat ≤ 8) (cls : BitVec 14) (fresh tw : Bool) :
    Transition.Follows st q (transition st q cls fresh tw) := by
  rw [h]
  split
  · exact .goes sel hrec hle
  · exact .stays

theorem sessionCode_cases : ∀ st : BitVec 4, st.toNat ≤ 8 →
    st = ssClosed ∨ st = ssSynSent ∨ st = ssSynAckReceived ∨ st = ssEstablished ∨ st = ssPublishingMqtt ∨
      st = ssDisconnectRequested ∨ st = ssFinWait1 ∨ st = ssFinWait2 ∨ st = ssTimeWait := by
  decide

/-- Row by row, in the order of R386 to R394. -/
theorem transition_follows {st : BitVec 4} (h : st.toNat ≤ 8) (q : BitVec 2) (cls : BitVec 14) (fresh tw : Bool) :
    Transition.Follows st q (transition st q cls fresh tw) := by
  rcases sessionCode_cases st h with rfl | rfl | rfl | rfl | rfl | rfl | rfl | rfl | rfl
  · exact .goes selSyn (by decide) (by decide)
  · exact (awaits_synSent q).follows (by decide) (by decide) cls fresh tw
  · exact .goes selAck (by decide) (by decide)
  · exact .goes selConnect (by decide) (by decide)
  · exact (awaits_publishingMqtt q).follows (by decide) (by decide) cls fresh tw
  · exact (awaits_disconnectRequested q).follows (by decide) (by decide) cls fresh tw
  · exact (awaits_finWait1 q).follows (by decide) (by decide) cls fresh tw
  · exact .goes selAck (by decide) (by decide)
  · cases tw
    · exact .stays
    · exact .ends

/-! ### REQ (R384) -/

section
variable {s t : State} {k : BitVec 2}

theorem exec_req_none (s : State) : exec (.req reqNone) s = .next (s.raise .errArg) := rfl

theorem exec_req_of_free (hk : k ≠ reqNone) (hq : s.req = reqNone) :
    exec (.req k) s = .next ({ s with req := k }.done 1) := by
  show execReq k s = _
  rw [execReq, if_neg hk, if_pos hq]

theorem exec_req_of_pending (hk : k ≠ reqNone) (hq : s.req ≠ reqNone) : exec (.req k) s = .next (s.done 0) := by
  show execReq k s = _
  rw [execReq, if_neg hk, if_neg hq]

/-- A pending request is not replaced: REQ then writes the outputs only. -/
theorem exec_req_outputs (hq : s.req ≠ reqNone) (h : exec (.req k) s = .next t) :
    ∃ r st, t = { s with rdata := r, status := st } := by
  by_cases hk : k = reqNone
  · rw [hk, exec_req_none] at h
    exact ⟨0, .errArg, (Host.Outcome.next.inj h).symm⟩
  · rw [exec_req_of_pending hk hq] at h
    exact ⟨0, .ok, (Host.Outcome.next.inj h).symm⟩

end

/-- Settles O47: the three branches of REQ. -/
theorem requestTaken : Obligations.RequestTaken := fun s _ =>
  ⟨exec_req_of_free, exec_req_of_pending, fun hk => hk ▸ exec_req_none s⟩

/-! ### STEP (R385, R395) -/

section
variable {s t : State} {tw : Bool}

theorem exec_step_of_reserved (h : 8 < s.state.toNat) : exec (.step tw) s = .next (s.raise .errState) := by
  show execStep tw s = _
  rw [execStep, if_pos h]

theorem exec_step_of_legal (h : s.state.toNat ≤ 8) :
    exec (.step tw) s = .next
      ({ s with
        state := (sessionStep s.state s.req s.cls s.clsFresh tw).state,
        req := (sessionStep s.state s.req s.cls s.clsFresh tw).req, clsFresh := false }.done
          (sessionStep s.state s.req s.cls s.clsFresh tw).sel) := by
  show execStep tw s = _
  rw [execStep, if_neg (by omega)]

/-- Without a request no state has a trigger (R398, R401). -/
theorem sessionStep_of_none (st : BitVec 4) (cls : BitVec 14) (fresh tw : Bool) :
    sessionStep st reqNone cls fresh tw = ⟨st, reqNone, selNone⟩ := rfl

/-- With a request the table decides, for `PROTOCOL_VIOLATION` is false (R401). -/
theorem sessionStep_of_request {st : BitVec 4} {q : BitVec 2} (hq : q ≠ reqNone) (cls : BitVec 14) (fresh tw : Bool) :
    sessionStep st q cls fresh tw = transition st q cls fresh tw := if_neg hq

theorem exec_step_of_none (hq : s.req = reqNone) (h : s.state.toNat ≤ 8) :
    exec (.step tw) s = .next ({ s with clsFresh := false }.done selNone) := by
  rw [exec_step_of_legal h, hq, sessionStep_of_none, ← hq]

/-- STEP does what the row of its state says. -/
theorem exec_step_of_transition {st st' : BitVec 4} {q : BitVec 2} {sel : Data} (hq : s.req ≠ reqNone) (hst : s.state = st)
    (hrow : transition st s.req s.cls s.clsFresh tw = ⟨st', q, sel⟩) (hle : st.toNat ≤ 8 := by decide) :
    exec (.step tw) s = .next ({ s with state := st', req := q, clsFresh := false }.done sel) := by
  subst hst
  rw [exec_step_of_legal hle, sessionStep_of_request hq, hrow]

end

/-- Settles O49: the guard of STEP; and `state` stands in the low four bits of what SSM_GET returns. -/
theorem reservedStateFaults : Obligations.ReservedStateFaults := by
  intro s tw h
  refine ⟨exec_step_of_reserved h, _, exec_ssmGet s, ?_, rfl⟩
  have hstate := s.state.isLt
  have hreq := s.req.isLt
  rw [State.rdata_done, BitVec.toNat_ofNat]
  omega

/-- Settles O48: row by row. -/
theorem stepTable : Obligations.StepTable := by
  intro s tw goes trigger
  refine ⟨fun hq => ?_, exec_step_of_none⟩
  exact ⟨
    fun h => exec_step_of_transition hq h (transition_closed ..),
    fun h ht => exec_step_of_transition hq h ((awaits_synSent _).moves tw ht),
    fun h ht => exec_step_of_transition hq h ((awaits_synSent _).stays tw ht),
    fun h => exec_step_of_transition hq h (transition_synAckReceived ..),
    fun h => exec_step_of_transition hq h (transition_established ..),
    fun h ht => exec_step_of_transition hq h ((awaits_publishingMqtt _).moves tw ht),
    fun h ht => exec_step_of_transition hq h ((awaits_publishingMqtt _).stays tw ht),
    fun h ht => exec_step_of_transition hq h ((awaits_disconnectRequested _).moves tw ht),
    fun h ht => exec_step_of_transition hq h ((awaits_disconnectRequested _).stays tw ht),
    fun h ht => exec_step_of_transition hq h ((awaits_finWait1 _).moves tw ht),
    fun h ht => exec_step_of_transition hq h ((awaits_finWait1 _).stays tw ht),
    fun h => exec_step_of_transition hq h (transition_finWait2 ..),
    fun h htw => exec_step_of_transition hq h (transition_timeWait_elapsed _ _ _ tw htw),
    fun h htw => exec_step_of_transition hq h (transition_timeWait_running _ _ _ tw htw)⟩

/-! ### What the session keeps from reset on (R399) -/

/-- An instruction that writes the session is STEP or REQ (R20). -/
theorem exec_session_cases {i : Instr} {s t : State} (h : exec i s = .next t) :
    (∃ tw, i = .step tw) ∨ (∃ k, i = .req k) ∨ (t.state = s.state ∧ t.req = s.req) := by
  by_cases hstep : ∃ tw, i = .step tw
  · exact .inl hstep
  · by_cases hreq : ∃ k, i = .req k
    · exact .inr (.inl hreq)
    · have hs := not_exists.1 hstep
      exact .inr (.inr ⟨(exec_writes h).state_eq hs, (exec_writes h).req_eq hs (not_exists.1 hreq)⟩)

section
variable {s t : State}

/-- The session invariant speaks of `state` and `req` only. -/
theorem State.SessionInv.of_eq (h : s.SessionInv) (hs : t.state = s.state) (hq : t.req = s.req) : t.SessionInv :=
  ⟨hs ▸ hq ▸ h.requested, hs ▸ h.notSynAckReceived, hs ▸ h.stateLegal⟩

theorem State.sessionInv_of_closed (h : t.state = ssClosed) : t.SessionInv :=
  ⟨fun hne => absurd h hne, by rw [h]; decide, by rw [h]; decide⟩

theorem State.SessionInv.follows {tr : Transition} (h : s.SessionInv) (hq : s.req ≠ reqNone)
    (hf : Transition.Follows s.state s.req tr) (hs : t.state = tr.state) (hreq : t.req = tr.req) : t.SessionInv := by
  cases hf with
  | stays => exact h.of_eq hs hreq
  | ends => exact State.sessionInv_of_closed hs
  | goes sel hrec hle => exact ⟨fun _ => hreq ▸ hq, hs ▸ hrec, hs ▸ hle⟩

/-- A request is taken in Closed only, for it is pending everywhere else. -/
theorem State.SessionInv.req {k : BitVec 2} (h : s.SessionInv) (ht : exec (.req k) s = .next t) : t.SessionInv := by
  by_cases hq : s.req = reqNone
  · have hclosed : s.state = ssClosed := by_contra fun hne => h.requested hne hq
    exact State.sessionInv_of_closed (((exec_writes ht).state_eq nofun).trans hclosed)
  · obtain ⟨r, st, rfl⟩ := exec_req_outputs hq ht
    exact h.of_eq rfl rfl

theorem State.SessionInv.step {tw : Bool} (h : s.SessionInv) (ht : exec (.step tw) s = .next t) : t.SessionInv := by
  by_cases hq : s.req = reqNone
  · rw [exec_step_of_none hq h.stateLegal] at ht
    obtain rfl := Host.Outcome.next.inj ht
    exact h.of_eq rfl rfl
  · rw [exec_step_of_transition hq rfl rfl h.stateLegal] at ht
    obtain rfl := Host.Outcome.next.inj ht
    exact h.follows hq (transition_follows h.stateLegal s.req s.cls s.clsFresh tw) rfl rfl

theorem State.SessionInv.exec {i : Instr} (h : s.SessionInv) (ht : exec i s = .next t) : t.SessionInv := by
  rcases exec_session_cases ht with ⟨tw, rfl⟩ | ⟨k, rfl⟩ | ⟨hs, hq⟩
  · exact h.step ht
  · exact h.req ht
  · exact h.of_eq hs hq

end

/-- Settles O10: of the parts of a step only `exec` of STEP and REQ, and reset, write `state` or `req`. -/
theorem stepKeepsSessionInv : Obligations.StepKeepsSessionInv := fun _ _ =>
  step_preserves (fun _ _ h => h.of_eq rfl rfl) (fun _ _ h => h.of_eq rfl rfl) (fun _ h => h.of_eq rfl rfl)
    (fun _ h => h.of_eq rfl rfl) (fun _ _ => State.sessionInv_of_closed rfl) (fun _ _ _ h => h.exec)

/-! ### The stall (R402, R480) -/

/-- What every instruction of a list keeps, the list keeps. -/
theorem runAll_preserves {P : State → Prop} {is : List Instr} (hexec : ∀ i ∈ is, ∀ s t, P s → exec i s = .next t → P t)
    {s t : State} (h : P s) (hrun : runAll is s = .next t) : P t := by
  induction is generalizing s with
  | nil => exact Host.Outcome.next.inj hrun ▸ h
  | cons i is ih =>
    have hnext := exec_eq_after i s
    rw [runAll_cons_of_next hnext] at hrun
    exact ih (fun j hj => hexec j (.tail i hj)) (hexec i (.head is) s _ h hnext) hrun

/-- A session in state `st` with request `q`, and no classification to act on. -/
def State.StalledAt (st : BitVec 4) (q : BitVec 2) (s : State) : Prop := s.state = st ∧ s.req = q ∧ s.clsFresh = false

/-- A command other than CLASSIFY leaves a waiting session stalled: REQ finds the request pending, and STEP no fresh
classification. -/
theorem State.StalledAt.exec {st : BitVec 4} {q : BitVec 2} {i : Instr} {s t : State} (h : s.StalledAt st q)
    (hst : st ∈ [ssSynSent, ssPublishingMqtt, ssDisconnectRequested, ssFinWait1]) (hq : q ≠ reqNone) (hi : i ≠ .classify)
    (ht : exec i s = .next t) : t.StalledAt st q := by
  obtain ⟨rfl, rfl, hfresh⟩ := h
  rcases exec_session_cases ht with ⟨tw, rfl⟩ | ⟨k, rfl⟩ | ⟨hs, hreq⟩
  · have hle : ∀ st ∈ [ssSynSent, ssPublishingMqtt, ssDisconnectRequested, ssFinWait1], st.toNat ≤ 8 := by decide
    have hrow := hfresh ▸ transition_of_not_fresh s.req s.cls tw hst
    rw [exec_step_of_transition hq rfl hrow (hle _ hst)] at ht
    obtain rfl := Host.Outcome.next.inj ht
    exact ⟨rfl, rfl, rfl⟩
  · obtain ⟨r, status, rfl⟩ := exec_req_outputs hq ht
    exact ⟨rfl, rfl, hfresh⟩
  · obtain ⟨-, hkept | hcleared⟩ := (exec_writes ht).cls_kept_or_zero hi
    · exact ⟨hs, hreq, hkept.trans hfresh⟩
    · exact ⟨hs, hreq, hcleared⟩

/-- Settles O50: the stall, with `cls_fresh` false, is kept by every command of the list. -/
theorem stallWithoutClassify : Obligations.StallWithoutClassify := by
  intro is s t hst hq hfresh hclassify hrun
  have hstalled : t.StalledAt s.state s.req :=
    runAll_preserves (fun i hi _ _ h => h.exec hst hq fun heq => hclassify (heq ▸ hi)) ⟨rfl, rfl, hfresh⟩ hrun
  obtain ⟨hstate, hreq, -⟩ := hstalled
  exact ⟨hstate, hreq⟩

/-! ### The progression (R403) -/

/-- One STEP of a session, after commands that kept the state and the request. -/
theorem step_of_transition {a b c : State} {st st' : BitVec 4} {q q' : BitVec 2} {sel : Data} {tw : Bool}
    (hc : c.state = st ∧ c.req = q) (hkept : a.state = c.state ∧ a.req = c.req) (hq : q ≠ reqNone)
    (hrow : transition st q a.cls a.clsFresh tw = ⟨st', q', sel⟩) (h : exec (.step tw) a = .next b)
    (hle : st.toNat ≤ 8 := by decide) :
    b.rdata = sel ∧ b.state = st' ∧ b.req = q' := by
  have hreq : a.req = q := hkept.2.trans hc.2
  rw [exec_step_of_transition (hreq ▸ hq) (hkept.1.trans hc.1) (hreq ▸ hrow) hle] at h
  obtain rfl := Host.Outcome.next.inj h
  exact ⟨rfl, rfl, rfl⟩

/-- The selections of the three requests are the codes 4, 5 and 6 (R118, R390). -/
theorem publishSelection_toNat : ∀ k : BitVec 2, k ≠ reqNone → (publishSelection k).toNat = 3 + k.toNat := by decide

/-- Settles O51: the eight rows of the table, one after another. -/
theorem sessionProgression : Obligations.SessionProgression := by
  intro k a0 b0 b1 b2 b3 b4 b5 b6 b7 b8 a1 a2 a3 a4 a5 a6 a7 a8 tw kept fresh hk hclosed hfree h0 k1 h1 k2 t2 h2 k3 h3 k4 t4 h4
    k5 t5 h5 k6 t6 h6 k7 h7 k8 h8
  rw [exec_req_of_free hk hfree] at h0
  have s0 : b0.state = ssClosed ∧ b0.req = k := Host.Outcome.next.inj h0 ▸ ⟨hclosed, rfl⟩
  obtain ⟨r1, s1⟩ := step_of_transition s0 k1 hk (transition_closed ..) h1
  obtain ⟨r2, s2⟩ := step_of_transition s1 k2 hk ((awaits_synSent k).moves tw t2) h2
  obtain ⟨r3, s3⟩ := step_of_transition s2 k3 hk (transition_established ..) h3
  obtain ⟨r4, s4⟩ := step_of_transition s3 k4 hk ((awaits_publishingMqtt k).moves tw t4) h4
  obtain ⟨r5, s5⟩ := step_of_transition s4 k5 hk ((awaits_disconnectRequested k).moves tw t5) h5
  obtain ⟨r6, s6⟩ := step_of_transition s5 k6 hk ((awaits_finWait1 k).moves tw t6) h6
  obtain ⟨r7, s7⟩ := step_of_transition s6 k7 hk (transition_finWait2 ..) h7
  obtain ⟨r8, s8⟩ := step_of_transition s7 k8 hk (transition_timeWait_elapsed _ _ _ true rfl) h8
  have hsel : b4.rdata.toNat = 3 + k.toNat := r4 ▸ publishSelection_toNat k hk
  exact ⟨Prod.ext r1 s1.1, Prod.ext r2 s2.1, Prod.ext r3 s3.1, Prod.ext hsel s4.1, Prod.ext r5 s5.1, Prod.ext r6 s6.1,
    Prod.ext r7 s7.1, Prod.ext r8 s8.1, s8.2⟩

/-! ### The selected builder (R400) -/

/-- Settles O52: the host's table, selection by selection. -/
theorem selectedBuilders : Obligations.SelectedBuilders := fun _ _ =>
  ⟨rfl, rfl, rfl, rfl, rfl, rfl, rfl, rfl⟩

end Sys2Proof.Machine
end

section
/-! PROOF. PE never stops (R454, R474, R488). -/

namespace Sys2Proof.Machine

/-- A value of a frame field that no row names is dropped (R113). -/
theorem takeWire_of_error {f : WireField} {v : BitVec 16} {e : DecodeError} (h : decodeWire f v.toNat = .error e) (s : State) :
    takeWire f v s = .next s := by
  unfold takeWire; rw [h]

/-- Every stimulus is taken to a next state: a command legal or illegal, a value named by a row or not, and reset. -/
theorem takeStimulus_next (s : State) (x : Stimulus) : ∃ t, takeStimulus s x = .next t := by
  cases x with
  | command c =>
    by_cases hlegal : legalWord c.cw
    · obtain ⟨i, hi⟩ := (legalWord_iff_decodes c.cw).1 hlegal
      exact ⟨_, takeCommand_of_ok hi s⟩
    · exact ⟨_, takeCommand_of_illegal hlegal s⟩
  | wire f v =>
    cases hd : decodeWire f v.toNat with
    | ok i => exact ⟨_, (takeWire_of_ok hd s).trans (exec_eq_after i s)⟩
    | error e => exact ⟨_, takeWire_of_error hd s⟩
  | reset => exact ⟨s.applyReset, rfl⟩

/-- With nothing presented PE stays as it is (R454). -/
theorem step_of_pending_nil {s : State} (h : s.pending = []) : step s = .next s := by
  unfold step takeNext; rw [h]

/-- Settles O8: a step takes the first stimulus, which has a next state, or there is none to take. -/
theorem neverStops : Obligations.NeverStops := by
  refine ⟨fun s => ?_, fun _ => step_of_pending_nil⟩
  cases hp : s.pending with
  | nil => exact ⟨s, step_of_pending_nil hp⟩
  | cons x rest => rw [step_of_pending hp]; exact takeStimulus_next _ x

end Sys2Proof.Machine
end

section
/-! PROOF. TX and the raw buffer commands (R431 to R435). -/

namespace Sys2Proof.Machine

/-! ### TX (R431) -/

/-- The bytes from address 0 on, the frame when the count is its length. -/
theorem State.bytesAt_from_zero (s : State) (n : Nat) : s.bytesAt 0 n = (List.range n).map s.byteAt :=
  List.map_congr_left fun k _ => by rw [Nat.zero_add]

theorem exec_tx_of_empty {s : State} (h : s.flen = 0) : exec .tx s = .next (s.raise .errArg) := by
  show execTx s = _
  rw [execTx, if_pos h]

theorem exec_tx_of_nonempty {s : State} (h : s.flen ≠ 0) :
    exec .tx s =
      .next ({ s with txLog := s.txLog ++ [(List.range s.flen).map s.byteAt] }.done (bit s.env.txOk)) := by
  show execTx s = _
  rw [execTx, if_neg h, State.bytesAt_from_zero]

/-- Settles O54: the two branches of TX. -/
theorem txTransmits : Obligations.TxTransmits := fun _ =>
  ⟨exec_tx_of_empty, exec_tx_of_nonempty⟩

/-! ### BUF_RD and BUF_WR (R432, R433) -/

theorem exec_bufRd_of_lt {idx : Nat} {s : State} (h : idx < Config.bufCap) :
    exec (.bufRd idx) s = .next (s.done (BitVec.ofNat 48 (s.byteAt idx).toNat)) := by
  show execBufRd idx s = _
  rw [execBufRd, if_neg (Nat.not_le.2 h), BitVec.ofNat_toNat]

theorem exec_bufRd_of_le {idx : Nat} {s : State} (h : Config.bufCap ≤ idx) :
    exec (.bufRd idx) s = .next (s.raise .errBounds) := by
  show execBufRd idx s = _
  rw [execBufRd, if_pos h]

theorem exec_bufWr_of_le {idx : Nat} (b : Byte) {s : State} (h : Config.bufCap ≤ idx) :
    exec (.bufWr idx b) s = .next (s.raise .errBounds) := by
  show execBufWr idx b s = _
  rw [execBufWr, if_pos h]

/-! ### BUF_SETLEN and BUF_GETLEN (R434, R435) -/

theorem exec_bufSetlen_of_le {len : Nat} {s : State} (h : len ≤ Config.bufCap) :
    exec (.bufSetlen len) s = .next ((s.setFlen len).clearCls.done 0) := by
  show execBufSetlen len s = _
  rw [execBufSetlen, if_neg (Nat.not_lt.2 h)]

theorem exec_bufSetlen_of_lt {len : Nat} {s : State} (h : Config.bufCap < len) :
    exec (.bufSetlen len) s = .next (s.raise .errArg) := by
  show execBufSetlen len s = _
  rw [execBufSetlen, if_pos h]

theorem exec_bufGetlen (s : State) : exec .bufGetlen s = .next (s.done (BitVec.ofNat 48 s.flen)) := by
  show execBufGetlen s = _
  rw [execBufGetlen, State.flen, BitVec.ofNat_toNat]

/-- Settles O55: each command within its bound and beyond it, and the written byte by what a one-byte store leaves. -/
theorem bufferCommands : Obligations.BufferCommands := fun s n b =>
  ⟨exec_bufRd_of_lt, exec_bufRd_of_le, fun h => ⟨_, exec_bufWr_of_lt b h, rfl, s.byteAt_storeByte n b⟩,
    exec_bufWr_of_le b, exec_bufSetlen_of_le, exec_bufSetlen_of_lt, exec_bufGetlen s⟩

end Sys2Proof.Machine
end

section
/-! PROOF. The CFG_SET commands (R441 to R449). -/

namespace Sys2Proof.Machine

/-- What CFG_SET_IP, CFG_SET_SN and CFG_SET_GW do, for the register that `write` writes (R443, R445, R447). -/
def State.setConfig32 (write : Ip4 → State) (s : State) : State :=
  match s.wdata32 with
  | some v => (write v).done 0
  | none => s.raise .errArg

theorem State.setConfig32_of_lt (write : Ip4 → State) {s : State} (h : s.wdata.toNat < 2 ^ 32) :
    s.setConfig32 write = (write (BitVec.ofNat 32 s.wdata.toNat)).done 0 := by
  rw [State.setConfig32, State.wdata32_of_lt h]

theorem State.setConfig32_of_le (write : Ip4 → State) {s : State} (h : 2 ^ 32 ≤ s.wdata.toNat) :
    s.setConfig32 write = s.raise .errArg := by
  rw [State.setConfig32, State.wdata32_of_le h]

theorem exec_cfgSetIp (s : State) : exec .cfgSetIp s = .next (s.setConfig32 fun v => { s with localIp := v }) := rfl

theorem exec_cfgSetSn (s : State) : exec .cfgSetSn s = .next (s.setConfig32 fun v => { s with subnetMask := v }) := rfl

theorem exec_cfgSetGw (s : State) : exec .cfgSetGw s = .next (s.setConfig32 fun v => { s with gateway := v }) := rfl

/-- Settles O56: the three 32-bit registers are written by one operation, which checks the operand; the other two take any
operand. -/
theorem configWrites : Obligations.ConfigWrites := by
  intro s v
  rw [exec_cfgSetIp, exec_cfgSetSn, exec_cfgSetGw]
  refine ⟨rfl, fun hfits => ?_, fun hwide => ?_, fun _ => rfl⟩
  · simp only [State.setConfig32_of_lt _ hfits]
    exact ⟨rfl, rfl, rfl⟩
  · simp only [State.setConfig32_of_le _ hwide]
    exact ⟨rfl, rfl, rfl⟩

end Sys2Proof.Machine
end

section
/-! PROOF. How a command ends (R15, R471, R472): with a result, or as a fault that leaves nothing but its status. -/

namespace Sys2Proof.Machine

/-- A command has ended, with a result in some state, or with a fault in the state that it began in. -/
inductive Ends (s : State) : State → Prop
  | done (u : State) (v : Data) : Ends s (u.done v)
  | raise (st : Status) : Ends s (s.raise st)

/-- A command that has not ended well is a fault: `rdata` is 0 and the rest is as it was (R471, R472). -/
theorem Ends.eq_of_not_ok {s t : State} (h : Ends s t) (hst : t.status ≠ .ok) :
    t = { s with rdata := 0, status := t.status } := by
  cases h with
  | done u v => exact absurd rfl hst
  | raise st => rfl

/-! ### The shapes of a command -/

/-- A check that raises a fault, before the rest of the command. -/
theorem Ends.check {s t : State} {p : Prop} [Decidable p] (st : Status) (h : Ends s t) :
    Ends s (if p then s.raise st else t) := by
  split
  · exact .raise st
  · exact h

/-- A condition on which the command ends well, and a fault without it. -/
theorem Ends.require {s : State} {p : Prop} [Decidable p] (u : State) (v : Data) (st : Status) :
    Ends s (if p then u.done v else s.raise st) := by
  split
  · exact .done u v
  · exact .raise st

/-- A configuration register is written, or the data is too wide (R443, R445, R447). -/
theorem Ends.setConfig32 (write : Ip4 → State) (s : State) : Ends s (s.setConfig32 write) := by
  unfold State.setConfig32
  split
  · exact .done _ 0
  · exact .raise _

theorem Ends.built {s : State} (t : State) : Ends s t.built := .done _ _

/-- A builder whose checks have passed ends well unless a checksum fails, which is a fault in the state before the builder
(R342). -/
theorem Ends.endBuild (s : State) (o : Option State) : Ends s (endBuild s o) := by
  cases o with
  | none => exact .raise _
  | some t => exact .built t

theorem Ends.emitTcp (g : Segment) (s : State) : Ends s (emitTcp g s) := .check _ (.endBuild s _)

theorem Ends.mqttSegment (c : Byte) (body : List Byte) (s : State) : Ends s (mqttSegment c body s) :=
  .check _ (.emitTcp _ s)

/-- The SYN always fits, so the fault in which the drawn port would stay does not occur (R352). -/
theorem Ends.bldTcpSyn (s : State) : Ends s (after .bldTcpSyn s) := by
  have hlen : 34 + s.synSegment.tcpLen ≤ 1522 := by rw [s.synSegment_tcpLen]; decide
  obtain ⟨c, m, n, r, h, -⟩ := emitTcp_of_le (s := { s with localPort := s.drawnPort }) hlen
  rw [after_bldTcpSyn, h]
  exact .done _ r

/-- Every instruction ends in one of the two ways, shape by shape. -/
theorem execCases_ends : ExecCases (fun _ s t => Ends s t) where
  get f s := by rw [getField_eq]; exact .require _ _ _
  put _ _ := .check _ (.require _ _ _)
  wire _ _ _ s _ := .done s _
  length _ s t _ ht _ := by
    rcases ht with ⟨v, rfl⟩ | rfl | rfl
    · exact .done s v
    · exact .raise _
    · exact .raise _
  read _ v s _ _ := .done s v
  event _ _ _ _ _ := .done _ _
  mqtt _ c body s _ _ := .mqttSegment c body s
  rxPoll len s := by
    cases h : s.env.rxFrame with
    | none => rw [after, exec_rxPoll_none h]; exact .done s _
    | some f => rw [after, exec_rxPoll_some h]; exact .done _ _
  tx _ := .check _ (.done _ _)
  bufRd _ _ := .check _ (.done _ _)
  bufWr _ _ _ := .check _ (.done _ _)
  bufSetlen _ _ := .check _ (.done _ _)
  cfgSetMac _ := .done _ 0
  cfgSetIp s := .setConfig32 (fun v => { s with localIp := v }) s
  cfgSetSn s := .setConfig32 (fun v => { s with subnetMask := v }) s
  cfgSetGw s := .setConfig32 (fun v => { s with gateway := v }) s
  cfgSetDhcp _ _ := .done _ 0
  ckReset _ := .done _ 0
  ckAcc off len s := by
    by_cases h : off + len ≤ s.flen
    · rw [after, exec_ckAcc_of_le h]; exact .done _ 0
    · rw [after, exec_ckAcc_of_lt (Nat.lt_of_not_le h)]; exact .raise _
  ckAccW16 _ _ := .done _ 0
  ckFinal _ := .done _ _
  isIp _ := .done _ _
  isUdpValid _ := .done _ _
  classify _ := .done _ _
  bldArpReply s := .check _ (.endBuild s _)
  bldArpReq s := by
    rcases Nat.lt_or_ge s.wdata.toNat (2 ^ 32) with h | h
    · rw [after, exec_bldArpReq_of_lt h]; exact .built _
    · rw [after, exec_bldArpReq_of_le h]; exact .raise _
  bldIcmpReply s := by
    refine .check _ ?_
    split
    · exact .check _ (.endBuild s _)
    · exact .raise _
  bldUdpReply _ s := .check _ (.check _ (.endBuild s _))
  bldTcpSyn := .bldTcpSyn
  bldTcpAck s := .emitTcp _ s
  req _ s := by
    refine .check _ ?_
    split
    · exact .done _ 1
    · exact .done s 0
  step _ _ := .check _ (.done _ _)
  getLocL4 _ := .require _ _ _
  getLocPl _ := .require _ _ _

/-! ### The classifiers -/

/-- CLASSIFY and every predicate command end with a result (R301, R318). -/
theorem classifier_status {i : Instr} {s t : State} (hi : i ∈ Instr.classify :: predicateCommands) (h : exec i s = .next t) :
    t.status = .ok := by
  rcases List.mem_cons.1 hi with rfl | hi
  · exact (classify_reply h).2
  · obtain ⟨p, -, hexec⟩ := predicateCommands_readFrameOnly i hi
    rw [hexec] at h
    cases h
    rfl

/-- Settles O12: every instruction ends with a result or with a fault in the state it began in, and the classifiers with a
result. -/
theorem faultsLeaveNoTrace : Obligations.FaultsLeaveNoTrace :=
  ⟨fun _ _ _ h => (execCases_ends.exec h).eq_of_not_ok, fun _ _ _ => classifier_status⟩

end Sys2Proof.Machine
end

section
/-! PROOF. The wire rows (R110, and R108 for CONNECT): each is one comparison of a frame field with a value (log 9). -/

namespace Sys2Proof.Machine

/-- The comparison with a field of whole bytes: its base resolves, its bytes are in frame, and they hold the value. -/
theorem State.fieldIs_bytes {f : Field} {w v : Nat} {s : State} (h : (fieldDesc f).shape = .bytes w) :
    s.fieldIs f v = true ↔
      s.baseInFrame (fieldDesc f).base = true ∧ s.fieldAddr f + fieldBytes f ≤ s.flen ∧
        s.memRead (s.fieldAddr f) (fieldBytes f) = v := by
  have hbytes : fieldBytes f = w := by rw [fieldBytes, h]; rfl
  rw [State.fieldIs_iff, State.fieldInFrame_iff, State.fieldValue_bytes h, hbytes, and_assoc]

/-- A row of the opcode table that compares a field of whole bytes with a value. -/
structure WireRow (i : Instr) (f : Field) (v : Nat) : Prop where
  exec_eq : ∀ s, exec i s = .next (matchDiscriminator f v s)
  wholeBytes : ∃ w, (fieldDesc f).shape = .bytes w

/-- A wire row answers 1 exactly when its field is in frame and holds its value, and writes its outputs only. -/
theorem WireRow.exec_eq_done {i : Instr} {f : Field} {v : Nat} (h : WireRow i f v) (s : State) :
    exec i s = .next (s.done
      (if s.baseInFrame (fieldDesc f).base = true ∧ s.fieldAddr f + fieldBytes f ≤ s.flen ∧
        s.memRead (s.fieldAddr f) (fieldBytes f) = v then 1 else 0)) := by
  obtain ⟨w, hw⟩ := h.wholeBytes
  rw [h.exec_eq, matchDiscriminator, bit_of_iff (State.fieldIs_bytes hw)]

/-- Settles O59: each of the 24 rows has a field of whole bytes, so the comparison of such a row is its answer. -/
theorem wireRowsCompare : Obligations.WireRowsCompare := by
  intro s i f v hmem
  have hrow : WireRow i f v := by
    refine (?_ : ∀ row ∈ _, WireRow row.1 row.2.1 row.2.2) _ hmem
    simp only [List.forall_mem_append, List.forall_mem_cons, List.not_mem_nil, false_implies, implies_true, and_true]
    and_intros <;> exact ⟨fun _ => rfl, _, rfl⟩
  exact hrow.exec_eq_done s

end Sys2Proof.Machine
end
